-- ==== Sys2Proof/Config.lean ====
section
/-! DEFINITION. What the spec leaves open and the model takes as a free value (spec/00_scope.md R9).
`MODE` is an input of the machine and stands in its state. `WAIT_TIME` and the command latency have no place in a step
model without time (10_state.md R39, log 14). The named literals of R8 stand in Machine/Constants.lean. -/

namespace Sys2Proof

/-- `PULSE` (R9, R46, log 7): the width of the `n`-th transient high level, in a unit the spec does not give, zero when
the physical lines show no pulse. It has no body: nothing can be proved of its value, so every claim admits both a pulse
and no pulse. DESIGN CHOICE of the form; safe. -/
opaque Config.pulseWidth : Nat → Nat

end Sys2Proof
end

