-- ==== Sys2Proof/Word.lean ====
section
/-! DEFINITION. The word types of the Gengar CORE (spec/00_scope.md R10, R11): all values are unsigned, bit 0 is the
least significant bit. -/

namespace Sys2Proof

/-- An 8-bit value: an LFSR byte, `RAND`, `WMS`, `IMM8` (10_state.md R21, 30_encoding.md R80). -/
abbrev Byte := BitVec 8

/-- A 4-bit value: `CNT`, `DIM`, the fields `OP` and `RSV`, the observation port's address. -/
abbrev Nibble := BitVec 4

/-- A 16-bit command word, bit 15 the most significant (20_memory.md R66). -/
abbrev CmdWord := BitVec 16

end Sys2Proof
end

