-- ==== Sys2Proof/Syntax.lean ====
section
/-! DEFINITION. The commands of the CORE (spec/30_encoding.md R83), their one format (R80), and the source lines of the
assembler (R89, R90). -/

namespace Sys2Proof

/-- The seven commands, one constructor for each row of spec/opcode_table.json (R83). -/
inductive Instr where
  /-- No effect (42_wait_and_misc.md R190). -/
  | nop
  /-- Re-seed the Random Generator (40_random_generator.md R101). -/
  | init
  /-- Generate one byte (R102, R103). -/
  | gen
  /-- Drive the output high (41_blink_controller.md R131). -/
  | outh
  /-- Enter a fade sequence (R132, R133). -/
  | fstart
  /-- One sub-step of the fade sequence (R135 to R137). -/
  | fstep
  /-- Wait `ms` milliseconds, 0 to 255 (42_wait_and_misc.md R183). -/
  | wait (ms : Byte)
deriving DecidableEq, Repr

/-- The fields of the one format `CMD16` (R80): any 16-bit word, well formed or not. -/
structure Cmd16 where
  /-- `IMM8`, bits 15:8. -/
  imm8 : Byte
  /-- `RSV`, bits 7:4. -/
  rsv : Nibble
  /-- `OP`, bits 3:0. -/
  op : Nibble
deriving DecidableEq, Repr

/-- A command of an assembly source line (R89) or a pseudo-command (R90). The operand of `WAIT` is the number as
written, so a source command can be ill formed. -/
inductive Source where
  | nop
  | init
  | gen
  | outh
  | fstart
  | fstep
  | wait (ms : Nat)
  /-- `BOOT`: `INIT` then `OUTH`. -/
  | boot
  /-- `SETTLE`: `WAIT 100`. -/
  | settle
  /-- `FADE`: `FSTART`, then `FSTEP` while `fade_active = 1`. -/
  | fade
deriving DecidableEq, Repr

end Sys2Proof
end

