-- ==== Sys2Proof/WellFormed.lean ====
section
/-! DEFINITION. Which terms of the syntax are well formed (spec/30_encoding.md R80, R82, R84, R85, R89). -/

namespace Sys2Proof

/-- `RSV` must be `0b0000` (R80, R85). -/
def Cmd16.rsvClear (c : Cmd16) : Bool := c.rsv == 0#4

/-- `OP` values `0x7` to `0xF` are reserved (R84). -/
def Cmd16.opAssigned (c : Cmd16) : Bool := decide (c.op ≤ 6#4)

/-- `IMM8` is zero unless `OP` is that of WAIT (R80, R85). -/
def Cmd16.immAllowed (c : Cmd16) : Bool := c.op == 6#4 || c.imm8 == 0#8

/-- The fields form a legal command (R84, R85). -/
def Cmd16.wellFormed (c : Cmd16) : Bool := c.rsvClear && c.opAssigned && c.immAllowed

/-- Every term of `Instr` is well formed: six commands have no operand, and the operand of WAIT takes every value its
8-bit type holds (R82). -/
def Instr.wellFormed : Instr → Bool
  | .nop => true
  | .init => true
  | .gen => true
  | .outh => true
  | .fstart => true
  | .fstep => true
  | .wait _ => true

/-- The operand of `WAIT` in a source line is in the range 0 to 255 (R89). -/
def Source.wellFormed : Source → Bool
  | .nop => true
  | .init => true
  | .gen => true
  | .outh => true
  | .fstart => true
  | .fstep => true
  | .wait ms => decide (ms ≤ 255)
  | .boot => true
  | .settle => true
  | .fade => true

end Sys2Proof
end

