-- ==== Sys2Proof/Decode.lean ====
section
/-! DEFINITION. The decoder (spec/30_encoding.md R86) and, after it, the encoder (R80, R83). -/

namespace Sys2Proof

/-- Why a word is illegal (R84, R85). -/
inductive Illegal where
  /-- `RSV` is not zero (R85). -/
  | rsvNotZero
  /-- `IMM8` is not zero and `OP` is not that of WAIT (R85). -/
  | immNotZero
  /-- `OP` is one of `0x7` to `0xF` (R84). -/
  | reservedOp
deriving DecidableEq, Repr

/-- What a word decodes to: total on all 65536 words (R86). -/
inductive Decoded where
  | legal (i : Instr)
  | illegal (why : Illegal)
deriving DecidableEq, Repr

/-- The fields of a word (R80). -/
def Cmd16.ofWord (w : CmdWord) : Cmd16 :=
  ⟨w.extractLsb' 8 8, w.extractLsb' 4 4, w.extractLsb' 0 4⟩

/-- The word with the given fields (R80). -/
def Cmd16.toWord (c : Cmd16) : CmdWord := c.imm8 ++ c.rsv ++ c.op

/-- The command that fields select, checked in the order of R86. -/
def Cmd16.decode (c : Cmd16) : Decoded :=
  if c.rsv ≠ 0#4 then .illegal .rsvNotZero
  else if c.op = 0x6#4 then .legal (.wait c.imm8)
  else if c.imm8 ≠ 0#8 then .illegal .immNotZero
  else if c.op = 0x0#4 then .legal .nop
  else if c.op = 0x1#4 then .legal .init
  else if c.op = 0x2#4 then .legal .gen
  else if c.op = 0x3#4 then .legal .outh
  else if c.op = 0x4#4 then .legal .fstart
  else if c.op = 0x5#4 then .legal .fstep
  else .illegal .reservedOp

/-- `decode` of R86. -/
def decode (w : CmdWord) : Decoded := (Cmd16.ofWord w).decode

/-- The instruction of a legal word. -/
def Decoded.instr? : Decoded → Option Instr
  | .legal i => some i
  | .illegal _ => none

/-- Whether the word is one of the 262 legal words (R86). -/
def Decoded.isLegal : Decoded → Bool
  | .legal _ => true
  | .illegal _ => false

/-- The `OP` field of a command (R83). -/
def Instr.opcode : Instr → Nibble
  | .nop => 0x0#4
  | .init => 0x1#4
  | .gen => 0x2#4
  | .outh => 0x3#4
  | .fstart => 0x4#4
  | .fstep => 0x5#4
  | .wait _ => 0x6#4

/-- The `IMM8` field of a command: only WAIT has one (R82). -/
def Instr.imm8 : Instr → Byte
  | .nop => 0#8
  | .init => 0#8
  | .gen => 0#8
  | .outh => 0#8
  | .fstart => 0#8
  | .fstep => 0#8
  | .wait ms => ms

/-- The fields of a command's word (R80, R83). -/
def Instr.fields (i : Instr) : Cmd16 := ⟨i.imm8, 0#4, i.opcode⟩

/-- The word of a command (R80, R83, R91). -/
def encode (i : Instr) : CmdWord := i.fields.toWord

/-- The instruction the decoder reads from an instruction of `nbits` bits `w`, bit 0 the least significant. A word has
16 bits (R81): a number that does not fit in them is no word and is refused (log 15). -/
def decodeTableWord (nbits w : Nat) : Option Instr :=
  let v := w % 2 ^ nbits
  if v < 2 ^ 16 then (decode (BitVec.ofNat 16 v)).instr? else none

end Sys2Proof
end

