-- ==== Sys2Proof/Machine/Constants.lean ====
section
/-! DEFINITION. The fixed constants of spec/00_scope.md R8, each the document's literal. The literals are unaudited
(92_eei_decisions.md D25, log 18), so each stands once, here. -/

namespace Sys2Proof.Machine

/-- `SEED`, byte 0: `S[0]` after `Init` (R8, 40_random_generator.md R101). -/
def seed0 : Byte := 0x21#8

/-- `SEED`, byte 1. -/
def seed1 : Byte := 0x2C#8

/-- `SEED`, byte 2. -/
def seed2 : Byte := 0x7F#8

/-- `SEED`, byte 3. -/
def seed3 : Byte := 0x7F#8

/-- `SEED_INDEX`: `IDX` after `Init` (R8). -/
def seedIndex : BitVec 2 := 0#2

/-- `THRESHOLD`: a blink triggers when the byte is greater (R8, R112). -/
def threshold : Byte := 250#8

/-- `SETTLE_MS`: the settle wait of each outer iteration, in ms (R8, R161). -/
def settleMs : Byte := 100#8

/-- `STEP_MS`: the wait of each fade sub-step, in ms (R8, R136). -/
def stepMs : Byte := 2#8

/-- `DIM_MAX`: the initial and terminal `dim_level` (R8, R137). -/
def dimMax : Nibble := 10#4

/-- `CYCLE_LEN`: the sub-steps after which a PWM cycle ends (R8, R137). -/
def cycleLen : Nibble := 10#4

/-- `EXT_COUNT`: the value forced into `counter` at the dim-0 transition (R8, R137). -/
def extCount : Nibble := 11#4

/-- `TICK`: the countdown tick of the external timer, in seconds (R8). The timer stands outside the block and no rule of
the block uses its tick (R6 item 3, 42_wait_and_misc.md R184, 70_reset_and_hazards.md R252; log 14). -/
def tick : Rat := 1 / 125000

end Sys2Proof.Machine
end

