-- ==== Sys2Proof/Machine/State.lean ====
section
/-! DEFINITION. The state of the machine (spec/10_state.md R21, R39): the register set, the event history, and what the
environment drives on the input ports. -/

namespace Sys2Proof.Machine

open Sys2Proof

/-- `MODE`, the command source (30_encoding.md R88, 10_state.md R40): a register of one bit, 0 = AUTO, 1 = EXT. -/
inductive Mode where
  | auto
  | ext
deriving DecidableEq, Repr

/-- `CONT`, which command is waiting (30_encoding.md R88): one bit, 0 = WAIT, 1 = FSTEP. -/
inductive Cont where
  | wait
  | fstep
deriving DecidableEq, Repr

/-- `CAUSE` (30_encoding.md R87): two bits, code 3 is reserved and never written (log 10). -/
inductive Cause where
  | none
  | illegalCmd
  | fstepIdle
deriving DecidableEq, Repr

/-- `SEQ`, the sequencer state (30_encoding.md R88): three bits, codes 6 and 7 are never held (log 10). -/
inductive Seq where
  | boot0
  | boot1
  | gen
  | fstart
  | fstep
  | settle
deriving DecidableEq, Repr

/-- The four LFSR bytes `S[0..3]` (10_state.md R24). -/
structure Lfsr where
  s0 : Byte
  s1 : Byte
  s2 : Byte
  s3 : Byte
deriving DecidableEq, Repr

/-- The events of the history (10_state.md R45). -/
inductive Event where
  | reset
  | accept (w : CmdWord)
  | retire (w : CmdWord)
  | eyesWrite (v : Bool)
  | gen (b : Byte)
  | waitReq (ms : Byte)
  | waitDone
  | fault (c : Cause) (w : CmdWord)
deriving DecidableEq, Repr

/-- The levels of the input ports in one step (10_state.md R37): what HOST and WAIT drive. -/
structure Frame where
  /-- `rst`: reset request. -/
  rst : Bool
  /-- `mode`: the strap sampled at reset. -/
  mode : Mode
  /-- `cmd_valid`: in EXT mode, a command word is offered. -/
  cmdValid : Bool
  /-- `cmd`: the command word. -/
  cmd : CmdWord
  /-- `wait_done`: the WAIT agent reports completion. -/
  waitDone : Bool
  /-- `dbg_addr`: the observation port's address. -/
  dbgAddr : Nibble
deriving DecidableEq, Repr

/-- The machine's state: every register of R21 (the packed ones as their fields), the event history (R39, R45), and the
model's own fields, which its log names. -/
structure State where
  /-- `S[0..3]`, registers 0x0 to 0x3. -/
  lfsr : Lfsr
  /-- `IDX`, register 0x4: the index of the byte the next GEN reads and overwrites (R25). -/
  idx : BitVec 2
  /-- `RAND`, register 0x5: the byte returned by the last GEN (R33). -/
  rand : Byte
  /-- `CNT`, register 0x6 (R28). -/
  cnt : Nibble
  /-- `DIM`, register 0x7 (R29). -/
  dim : Nibble
  /-- `UP`, bit 0 of `FCTL`, register 0x8 (R30). -/
  up : Bool
  /-- `ACT`, bit 1 of `FCTL`, register 0x8 (R31). -/
  act : Bool
  /-- `EYES`, bit 0 of `OUT`, register 0x9 (R32). -/
  eyes : Bool
  /-- `WAIT_PEND`, bit 0 of `WST`, register 0xA (R35). -/
  waitPend : Bool
  /-- `CONT`, bit 1 of `WST`, register 0xA (R35). -/
  cont : Cont
  /-- `WMS`, register 0xB (R35). -/
  wms : Byte
  /-- `FAULT`, bit 0 of `FST`, register 0xC (R36). -/
  fault : Bool
  /-- `CAUSE`, bits 2:1 of `FST`, register 0xC (R36). -/
  cause : Cause
  /-- `FCMD`, register 0xD (R36). -/
  fcmd : CmdWord
  /-- `SEQ`, register 0xE (R34). -/
  seq : Seq
  /-- `MODE`, register 0xF (R36). -/
  mode : Mode
  /-- The event history, oldest first (R45). -/
  history : List Event
  /-- The model's own: the level `rst` had in the step before (R230, log 6). -/
  rstHeld : Bool
  /-- The model's own: the input port levels of the steps to come, the next step's first (log 2, log 3). -/
  inputs : List Frame
  /-- The model's own: the widths of the transients so far, oldest first, each a free value (R46, log 7). -/
  pulses : List Nat
deriving DecidableEq, Repr

/-- Why a run stops with a fault. -/
inductive Fault where
  /-- Raised by `step` when the machine is in the fault state (`FAULT = 1`) and the environment will do nothing more: the
  only enabled step is reset and it never comes, so the run stands still, a faulted run and never a normal end
  (60_exceptions.md R204, 10_state.md R47, log 5). Safe: the machine does nothing here either. -/
  | halted (cause : Cause)
deriving DecidableEq, Repr

/-- Why the model has no meaning to give. -/
inductive Refusal where
  /-- Raised by `exec` for an instruction that has no meaning yet (none is left). Safe: nothing can be claimed of it. -/
  | notModelled (mnemonic : String)
deriving DecidableEq, Repr

/-- The machine right after a reset with the given level of the `mode` strap (70_reset_and_hazards.md R231): every
register at the value R21 lists, the history the one event `Reset`, `rst` released, nothing scheduled on the ports. -/
def State.resetWith (strap : Mode) : State where
  lfsr := ⟨seed0, seed1, seed2, seed3⟩
  idx := seedIndex
  rand := 0x00#8
  cnt := 0#4
  dim := dimMax
  up := false
  act := false
  eyes := true
  waitPend := false
  cont := .wait
  wms := 0x00#8
  fault := false
  cause := .none
  fcmd := 0x0000#16
  seq := .boot0
  mode := strap
  history := [.reset]
  rstHeld := false
  inputs := []
  pulses := []

/-- The machine right after reset. DESIGN CHOICE (log 1): strapped AUTO, the firmware's own command source; the strap is
the HOST's choice (00_scope.md R9), so claims are made of `State.resetWith` for both levels. -/
def State.reset : State := State.resetWith .auto

end Sys2Proof.Machine
end

