-- ==== Sys2Proof/Machine/Ops.lean ====
section
/-! DEFINITION. The named operations over the registers and the event history: the LFSR array, the output register, the
wait request, fault entry and its only way out, the reset step (spec/10_state.md, 42_wait_and_misc.md R180,
60_exceptions.md R203, 70_reset_and_hazards.md R231). -/

namespace Sys2Proof.Machine

open Sys2Proof

/-- `emit E`: append an event to the history (00_scope.md R13, 10_state.md R45). -/
def State.emit (e : Event) (s : State) : State := { s with history := s.history ++ [e] }

/-- `S[i]` (10_state.md R26). -/
def Lfsr.get (a : Lfsr) (i : BitVec 2) : Byte :=
  match i.toFin with
  | 0 => a.s0
  | 1 => a.s1
  | 2 => a.s2
  | 3 => a.s3

/-- `S[i] <- v` (00_scope.md R12, 10_state.md R26). -/
def Lfsr.set (a : Lfsr) (i : BitVec 2) (v : Byte) : Lfsr :=
  match i.toFin with
  | 0 => { a with s0 := v }
  | 1 => { a with s1 := v }
  | 2 => { a with s2 := v }
  | 3 => { a with s3 := v }

/-- The bytes that `Init` and reset load (00_scope.md R8, 40_random_generator.md R101). -/
def seed : Lfsr := ⟨seed0, seed1, seed2, seed3⟩

/-- `EYES <- v; emit EyesWrite(v)` (10_state.md R32, R45): one event for each write, whatever `EYES` held. -/
def State.writeEyes (v : Bool) (s : State) : State := ({ s with eyes := v } : State).emit (.eyesWrite v)

/-- The transient of a step that writes the output high and then low (10_state.md R46): its width is the next free value
(log 7). -/
def State.recordPulse (s : State) : State :=
  { s with pulses := s.pulses ++ [Config.pulseWidth s.pulses.length] }

/-- `request_wait(ms)` by the command that `c` records (42_wait_and_misc.md R180, R183, 41_blink_controller.md R136). -/
def State.requestWait (c : Cont) (ms : Byte) (s : State) : State :=
  ({ s with cont := c, wms := ms, waitPend := true } : State).emit (.waitReq ms)

/-- `raise Fault(cause)` with the accepted word `w`: entering the fault state (60_exceptions.md R203). No other register
changes. The way out is `State.resetStep` (R206). -/
def State.raiseFault (c : Cause) (w : CmdWord) (s : State) : State :=
  ({ s with fault := true, cause := c, fcmd := w } : State).emit (.fault c w)

/-- The reset step's writes (10_state.md R44, 70_reset_and_hazards.md R231), the only return from the fault state
(60_exceptions.md R206). A pending wait is dropped without a `WaitDone` event (R233). The history goes on (log 8). -/
def State.resetStep (strap : Mode) (s : State) : State :=
  ({ s with
      lfsr := seed
      idx := seedIndex
      rand := 0x00#8
      cnt := 0#4
      dim := dimMax
      up := false
      act := false
      eyes := true
      waitPend := false
      cont := .wait
      wms := 0x00#8
      fault := false
      cause := .none
      fcmd := 0x0000#16
      seq := .boot0
      mode := strap } : State).emit .reset

end Sys2Proof.Machine
end

