-- ==== Sys2Proof/Machine/Flags.lean ====
section
/-! DEFINITION. The flags that are computed: the trigger comparator and the command port's ready. The other flags of
spec/10_state.md R33 (`UP`, `ACT`, `WAIT_PEND`, `FAULT`) are registers. -/

namespace Sys2Proof.Machine

open Sys2Proof

/-- The comparator: `byte > THRESHOLD`, unsigned and strict (40_random_generator.md R112). -/
def triggers (b : Byte) : Bool := decide (threshold < b)

/-- `TRIG`, combinational from `RAND` (10_state.md R33, R112). -/
def State.trig (s : State) : Bool := triggers s.rand

/-- `WAIT_PEND = 0` and `FAULT = 0`: what the accept step needs of the registers (10_state.md R41). -/
def State.canAccept (s : State) : Bool := !s.waitPend && !s.fault

/-- `cmd_ready` (10_state.md R37, 92_eei_decisions.md D28). -/
def State.cmdReady (s : State) : Bool := s.canAccept && decide (s.mode = .ext)

end Sys2Proof.Machine
end

