-- ==== Sys2Proof/Machine/Operands.lean ====
section
/-! DEFINITION. What the commands read: the two LFSR bytes of GEN and the immediate of WAIT. No command names a register
operand (spec/10_state.md R22) and no other command has an operand (30_encoding.md R82). -/

namespace Sys2Proof.Machine

open Sys2Proof

/-- `(i + 1) mod 4` (40_random_generator.md R103): two bits wrap. -/
def nextIndex (i : BitVec 2) : BitVec 2 := i + 1#2

/-- `cur = S[IDX]` (R103 step 1). -/
def State.curByte (s : State) : Byte := s.lfsr.get s.idx

/-- `nxt = S[(IDX + 1) mod 4]` (R103 step 1). -/
def State.nxtByte (s : State) : Byte := s.lfsr.get (nextIndex s.idx)

/-- `ms = zext_8(IMM8)`: unsigned, neither scaled nor shifted (30_encoding.md R82, R86). -/
def waitOperand (imm : Byte) : Byte := imm.zeroExtend 8

end Sys2Proof.Machine
end

