-- ==== Sys2Proof/Machine/BlinkController.lean ====
section
/-! DEFINITION. The Blink Controller: OUTH, FSTART and the two phases of FSTEP (spec/41_blink_controller.md). -/

namespace Sys2Proof.Machine

open Sys2Proof

/-- OUTH (R131). -/
def execOuth (s : State) : Host.Outcome State Fault Refusal := .next (s.writeEyes true)

/-- FSTART (R133), also while a fade is active (R134): `DIM` and `EYES` stay. -/
def execFstart (s : State) : Host.Outcome State Fault Refusal :=
  .next { s with cnt := 0#4, up := false, act := true }

/-- The output writes of phase A, in order: high when `CNT = 0`, low when `CNT = DIM` (R136). When both fire the lines
may show a transient (10_state.md R46). -/
def fadeDrive (s : State) : State :=
  let high := decide (s.cnt = 0#4)
  let low := decide (s.cnt = s.dim)
  let s1 := if high then s.writeEyes true else s
  let s2 := if high && low then s1.recordPulse else s1
  if low then s2.writeEyes false else s2

/-- FSTEP phase A (R136): the output writes, the increment (4 bits), the wait request. -/
def fstepPhaseA (s : State) : State :=
  let t := fadeDrive s
  State.requestWait .fstep stepMs { t with cnt := t.cnt + 1#4 }

/-- FSTEP phase B (R137): what the end of a cycle does. Within a cycle nothing changes. -/
def fstepPhaseB (s : State) : State :=
  if cycleLen ≤ s.cnt then
    if s.up then
      let t : State := { s with dim := s.dim + 1#4, cnt := 0#4 }
      if t.dim = dimMax then { t.writeEyes true with act := false } else t
    else if s.dim = 0#4 then { s with cnt := extCount, up := true }
    else { s with dim := s.dim - 1#4, cnt := 0#4 }
  else s

/-- FSTEP in its accept step (R135, R139): phase A in an active fade, otherwise the fault FSTEP_IDLE (60_exceptions.md
R202). Phase B runs in the wait-done step. -/
def execFstep (s : State) : Host.Outcome State Fault Refusal :=
  if s.act then .next (fstepPhaseA s) else .next (s.raiseFault .fstepIdle (encode .fstep))

end Sys2Proof.Machine
end

