-- ==== Sys2Proof/Machine/RandomGenerator.lean ====
section
/-! DEFINITION. The Random Generator: INIT and GEN (spec/40_random_generator.md). -/

namespace Sys2Proof.Machine

open Sys2Proof

/-- INIT (R101): the seed into `S`, the seed index into `IDX`; `RAND` stays. -/
def execInit (s : State) : Host.Outcome State Fault Refusal :=
  .next { s with lfsr := seed, idx := seedIndex }

/-- The byte GEN writes: `A ^ B ^ C ^ D` (R103 steps 2 and 3), with 8-bit truncating shifts (00_scope.md R11). -/
def feedback (cur nxt : Byte) : Byte :=
  let a := cur
  let b := (cur <<< 2) ||| (nxt >>> 6)
  let c := (cur <<< 6) ||| (nxt >>> 2)
  let d := (cur <<< 7) ||| (nxt >>> 1)
  a ^^^ b ^^^ c ^^^ d

/-- GEN (R103): overwrite `S[IDX]`, advance `IDX`, return the byte that was overwritten in `RAND`. -/
def execGen (s : State) : Host.Outcome State Fault Refusal :=
  let cur := s.curByte
  let new := feedback cur s.nxtByte
  .next (({ s with lfsr := s.lfsr.set s.idx new, idx := nextIndex s.idx, rand := cur } : State).emit (.gen cur))

end Sys2Proof.Machine
end

