-- ==== Sys2Proof/Machine/WaitMisc.lean ====
section
/-! DEFINITION. WAIT and NOP (spec/42_wait_and_misc.md). -/

namespace Sys2Proof.Machine

open Sys2Proof

/-- WAIT (R183): `CONT <- 0; request_wait(ms)`. Its wait-done step has no further effect than to retire it. -/
def execWait (ms : Byte) (s : State) : Host.Outcome State Fault Refusal :=
  .next (s.requestWait .wait (waitOperand ms))

/-- NOP (R190): no effect. -/
def execNop (s : State) : Host.Outcome State Fault Refusal := .next s

end Sys2Proof.Machine
end

