-- ==== Sys2Proof/Machine/Dispatch.lean ====
section
/-! DEFINITION. One arm for each command: the command's own rule, which the accept step performs after recording
`Accept(w)` (spec/10_state.md R41, log 13). -/

namespace Sys2Proof.Machine

open Sys2Proof

def exec (i : Instr) (s : State) : Host.Outcome State Fault Refusal :=
  match i with
  | .nop => Sys2Proof.Machine.execNop s
  | .init => Sys2Proof.Machine.execInit s
  | .gen => Sys2Proof.Machine.execGen s
  | .outh => Sys2Proof.Machine.execOuth s
  | .fstart => Sys2Proof.Machine.execFstart s
  | .fstep => Sys2Proof.Machine.execFstep s
  | .wait ms => Sys2Proof.Machine.execWait ms s

end Sys2Proof.Machine
end

