-- ==== Sys2Proof/Machine/Ports.lean ====
section
/-! DEFINITION. The ports (spec/10_state.md R37) and the observation port (R38). -/

namespace Sys2Proof.Machine

open Sys2Proof

/-- The code of `MODE` (30_encoding.md R88). -/
def Mode.code : Mode → BitVec 1
  | .auto => 0#1
  | .ext => 1#1

/-- The code of `CONT` (30_encoding.md R88). -/
def Cont.code : Cont → BitVec 1
  | .wait => 0#1
  | .fstep => 1#1

/-- The code of `CAUSE` (30_encoding.md R87). -/
def Cause.code : Cause → BitVec 2
  | .none => 0#2
  | .illegalCmd => 1#2
  | .fstepIdle => 2#2

/-- The code of `SEQ` (30_encoding.md R88). -/
def Seq.code : Seq → BitVec 3
  | .boot0 => 0#3
  | .boot1 => 1#3
  | .gen => 2#3
  | .fstart => 3#3
  | .fstep => 4#3
  | .settle => 5#3

/-- `FCTL`: bit 0 `UP`, bit 1 `ACT` (R21). -/
def State.fctl (s : State) : BitVec 2 := BitVec.ofBool s.act ++ BitVec.ofBool s.up

/-- `WST`: bit 0 `WAIT_PEND`, bit 1 `CONT` (R21). -/
def State.wst (s : State) : BitVec 2 := s.cont.code ++ BitVec.ofBool s.waitPend

/-- `FST`: bit 0 `FAULT`, bits 2:1 `CAUSE` (R21). -/
def State.fst (s : State) : BitVec 3 := s.cause.code ++ BitVec.ofBool s.fault

/-- The observation port: register number `addr` of R21, zero-extended to 16 bits, without side effects (R38, R61). The last
case is number 0xF. -/
def State.readReg (s : State) (addr : Nibble) : BitVec 16 :=
  match addr.toNat with
  | 0 => s.lfsr.s0.zeroExtend 16
  | 1 => s.lfsr.s1.zeroExtend 16
  | 2 => s.lfsr.s2.zeroExtend 16
  | 3 => s.lfsr.s3.zeroExtend 16
  | 4 => s.idx.zeroExtend 16
  | 5 => s.rand.zeroExtend 16
  | 6 => s.cnt.zeroExtend 16
  | 7 => s.dim.zeroExtend 16
  | 8 => s.fctl.zeroExtend 16
  | 9 => (BitVec.ofBool s.eyes).zeroExtend 16
  | 10 => s.wst.zeroExtend 16
  | 11 => s.wms.zeroExtend 16
  | 12 => s.fst.zeroExtend 16
  | 13 => s.fcmd
  | 14 => s.seq.code.zeroExtend 16
  | _ => s.mode.code.zeroExtend 16

/-- The two physical output lines between steps: `eyes[1:0]` is `EYES` twice (R37, R45, 90_conflicts.md C6). -/
def State.eyesLines (s : State) : BitVec 2 := BitVec.ofBool s.eyes ++ BitVec.ofBool s.eyes

/-- The levels of the output ports (R37). -/
structure Outputs where
  cmdReady : Bool
  waitReq : Bool
  waitMs : Byte
  eyes : BitVec 2
  randOut : Byte
  trig : Bool
  fadeActive : Bool
  fault : Bool
  cause : BitVec 2
  dbgData : BitVec 16
deriving DecidableEq, Repr

/-- The output ports of a state, with `addr` on `dbg_addr` (R37). -/
def State.outputs (s : State) (addr : Nibble) : Outputs where
  cmdReady := s.cmdReady
  waitReq := s.waitPend
  waitMs := s.wms
  eyes := s.eyesLines
  randOut := s.rand
  trig := s.trig
  fadeActive := s.act
  fault := s.fault
  cause := s.cause.code
  dbgData := s.readReg addr

end Sys2Proof.Machine
end

