-- ==== Sys2Proof/Machine/Sequencer.lean ====
section
/-! DEFINITION. The sequencer, the control loop of AUTO mode (spec/41_blink_controller.md section 6), and the retiring of
a command (10_state.md R41, R42). -/

namespace Sys2Proof.Machine

open Sys2Proof

/-- The command offered in each state (R161). -/
def seqCommand : Seq → Instr
  | .boot0 => .init
  | .boot1 => .outh
  | .gen => .gen
  | .fstart => .fstart
  | .fstep => .fstep
  | .settle => .wait settleMs

/-- Where the sequencer moves when its command retires, from `TRIG` and `ACT` as they are after it (R162 to R167). -/
def nextSeq (q : Seq) (trig act : Bool) : Seq :=
  match q with
  | .boot0 => .boot1
  | .boot1 => .gen
  | .gen => if trig then .fstart else .settle
  | .fstart => .fstep
  | .fstep => if act then .fstep else .settle
  | .settle => .gen

/-- `SEQ` changes only in AUTO mode (10_state.md R34). -/
def State.advanceSeq (s : State) : State :=
  match s.mode with
  | .auto => { s with seq := nextSeq s.seq s.trig s.act }
  | .ext => s

/-- A command retires: `emit Retire(w)`, and in AUTO mode `SEQ` advances (10_state.md R41, R42, R162). -/
def State.retire (w : CmdWord) (s : State) : State := (s.emit (.retire w)).advanceSeq

end Sys2Proof.Machine
end

