-- ==== Sys2Proof/Machine/Transitions.lean ====
section
/-! DEFINITION. The atomic steps of the machine (spec/10_state.md R41, R42, R44) and which of them the levels on the
input ports enable. -/

namespace Sys2Proof.Machine

open Sys2Proof

/-- The input levels when nothing is scheduled any more (log 3): no reset, no command offered, the strap as sampled, and
the WAIT agent does its duty, it completes a pending request (42_wait_and_misc.md R182). -/
def State.quietFrame (s : State) : Frame where
  rst := false
  mode := s.mode
  cmdValid := false
  cmd := 0#16
  waitDone := s.waitPend
  dbgAddr := 0#4

/-- The input levels of the coming step. -/
def State.frame (s : State) : Frame :=
  match s.inputs with
  | [] => s.quietFrame
  | f :: _ => f

/-- The coming step's levels are used up. -/
def State.consume (s : State) : State := { s with inputs := s.inputs.tail }

/-- `dbg_data` in the coming step: the register that `dbg_addr` names (R37, R38). -/
def State.dbgData (s : State) : BitVec 16 := s.readReg s.frame.dbgAddr

/-- The output ports in the coming step (R37). -/
def State.ports (s : State) : Outputs := s.outputs s.frame.dbgAddr

/-- The command word offered to the CORE (10_state.md R40): in AUTO mode the sequencer's, whatever the command port says;
in EXT mode the word on `cmd` while `cmd_valid = 1`. -/
def State.offered (s : State) : Option CmdWord :=
  match s.mode with
  | .auto => some (encode (seqCommand s.seq))
  | .ext => if s.frame.cmdValid then some s.frame.cmd else none

/-- The end of an accept step: a command that neither waits nor faulted retires (R41 step 4). -/
def finishAccept (w : CmdWord) (s : State) : State :=
  if s.waitPend || s.fault then s else s.retire w

/-- What follows the meaning of a command in its accept step. -/
def finishOutcome (w : CmdWord) : Host.Outcome State Fault Refusal → Host.Outcome State Fault Refusal
  | .next t => .next (finishAccept w t)
  | .fault r => .fault r
  | .refused r => .refused r

/-- The accept step of word `w` (R41): `Accept(w)`, decode, the command's rule, `Retire(w)`. An illegal word enters the
fault state (60_exceptions.md R201). -/
def acceptStep (w : CmdWord) (s : State) : Host.Outcome State Fault Refusal :=
  match decode w with
  | .legal i => finishOutcome w (exec i (s.emit (.accept w)))
  | .illegal _ => .next ((s.emit (.accept w)).raiseFault .illegalCmd w)

/-- The word of the command that requested the pending wait (R42, log 20): FSTEP, or WAIT with the operand that `WMS`
holds. -/
def State.waitingWord (s : State) : CmdWord :=
  match s.cont with
  | .wait => encode (.wait s.wms)
  | .fstep => encode .fstep

/-- What the waiting command does after its wait: FSTEP its phase B, WAIT nothing (R42 step 3, R183). -/
def State.continuation (s : State) : State :=
  match s.cont with
  | .wait => s
  | .fstep => fstepPhaseB s

/-- The wait-done step (R42): `WaitDone`, `WAIT_PEND <- 0`, the continuation, `Retire(w)`. -/
def waitDoneStep (s : State) : State :=
  let t : State := { s.emit .waitDone with waitPend := false }
  t.continuation.retire s.waitingWord

/-- One step (R39, R44, R207): the reset step comes before every other, taken when `rst` is asserted and again when it is
released; while it is held nothing happens (70_reset_and_hazards.md R230, log 6). In the fault state no other step is
enabled (60_exceptions.md R204): with nothing scheduled any more the machine stands still for good (log 5). While a wait
is pending only the wait-done step is enabled (R42). Otherwise the offered word, if any, is accepted (R41). A step that
the levels do not enable leaves every register as it was (R42, R237, log 4). -/
def cycle (s : State) : Host.Outcome State Fault Refusal :=
  let f := s.frame
  let t := s.consume
  if f.rst then
    if s.rstHeld then .next t else .next (State.resetStep f.mode { t with rstHeld := true })
  else if s.rstHeld then .next (State.resetStep f.mode { t with rstHeld := false })
  else if s.fault then
    if s.inputs = [] then .fault (.halted s.cause) else .next t
  else if s.waitPend then
    if f.waitDone then .next (waitDoneStep t) else .next t
  else
    match s.offered with
    | some w => acceptStep w t
    | none => .next t

end Sys2Proof.Machine
end

