-- ==== Sys2Proof/Machine/Step.lean ====
section
/-! DEFINITION. The step of the machine, and the placing of a word where the next step takes its command from. -/

namespace Sys2Proof.Machine

open Sys2Proof

/-- One atomic transition of the block (spec/10_state.md R39), chosen by the levels on its input ports. -/
def step (s : State) : Host.Outcome State Fault Refusal := Sys2Proof.Machine.cycle s

/-- `s` with the word of `nbits` bits `w` offered on the command port in the coming step and the port ready to take it
(10_state.md R37, R40, R41, log 12): EXT mode, no wait pending, no fault, `rst` low. Later steps find the levels that
were scheduled before. -/
def State.withFetchWord (s : State) (nbits w : Nat) : State :=
  { s with
    mode := .ext
    waitPend := false
    fault := false
    rstHeld := false
    inputs :=
      ⟨false, .ext, true, BitVec.ofNat 16 (w % 2 ^ nbits), false, 0#4⟩ :: s.inputs }

end Sys2Proof.Machine
end

