-- ==== Sys2Proof/Machine/Assembler.lean ====
section
/-! DEFINITION. The assembly syntax (spec/30_encoding.md R89) and the pseudo-commands (R90). Text is a list of
characters. What the spec leaves open of the line's characters is in log 17. -/

namespace Sys2Proof.Machine

open Sys2Proof

/-- One source line: a label, a command, both or neither (R89). -/
structure AsmLine where
  label : Option (List Char)
  command : Option Source
deriving DecidableEq, Repr

/-- The line without its comment: `;` starts one (R89). -/
def stripComment (line : List Char) : List Char := line.takeWhile (fun c => c != ';')

/-- The words of a line, split at blanks; a colon ends the word it belongs to. `cur` is the word read so far. -/
def splitWords : List Char → List Char → List (List Char)
  | cur, [] => if cur = [] then [] else [cur]
  | cur, c :: cs =>
    if c = ' ' ∨ c = '\t' then
      if cur = [] then splitWords [] cs else cur :: splitWords [] cs
    else if c = ':' then (cur ++ [c]) :: splitWords [] cs
    else splitWords (cur ++ [c]) cs

/-- An identifier: a letter or underscore, then letters, digits and underscores (log 17). -/
def isIdentifier : List Char → Bool
  | [] => false
  | c :: cs => (c.isAlpha || c == '_') && cs.all (fun d => d.isAlphanum || d == '_')

/-- The value of a digit in the given base. -/
def digitValue (base : Nat) (c : Char) : Option Nat :=
  let n := c.toNat
  let v :=
    if 48 ≤ n ∧ n ≤ 57 then some (n - 48)
    else if 65 ≤ n ∧ n ≤ 70 then some (n - 55)
    else if 97 ≤ n ∧ n ≤ 102 then some (n - 87)
    else none
  v.filter (fun d => d < base)

/-- Digits in the given base, most significant first, after the value `acc`. -/
def readDigits (base : Nat) : Nat → List Char → Option Nat
  | acc, [] => some acc
  | acc, c :: cs => (digitValue base c).bind (fun d => readDigits base (base * acc + d) cs)

/-- The millisecond count, decimal or hexadecimal after `0x` (R89). -/
def readNumber : List Char → Option Nat
  | [] => none
  | '0' :: 'x' :: c :: cs => readDigits 16 0 (c :: cs)
  | c :: cs => readDigits 10 0 (c :: cs)

/-- A command from its words: the mnemonic in upper case, and for WAIT its one operand (R89, R90). -/
def readCommand : List (List Char) → Option Source
  | [['N', 'O', 'P']] => some .nop
  | [['I', 'N', 'I', 'T']] => some .init
  | [['G', 'E', 'N']] => some .gen
  | [['O', 'U', 'T', 'H']] => some .outh
  | [['F', 'S', 'T', 'A', 'R', 'T']] => some .fstart
  | [['F', 'S', 'T', 'E', 'P']] => some .fstep
  | [['W', 'A', 'I', 'T'], n] => (readNumber n).map Source.wait
  | [['B', 'O', 'O', 'T']] => some .boot
  | [['S', 'E', 'T', 'T', 'L', 'E']] => some .settle
  | [['F', 'A', 'D', 'E']] => some .fade
  | _ => none

/-- The command of a line's words after its label, if there is one; the operand must be in range (R89). -/
def readBody (ws : List (List Char)) : Option (Option Source) :=
  if ws = [] then some none
  else ((readCommand ws).filter Source.wellFormed).map some

/-- The source line that the text spells (R89), `none` where it spells none. -/
def parseLine (text : List Char) : Option AsmLine :=
  match splitWords [] (stripComment text) with
  | [] => some ⟨none, none⟩
  | w :: ws =>
    if w.getLast? = some ':' then
      if isIdentifier w.dropLast then (readBody ws).map (fun c => ⟨some w.dropLast, c⟩) else none
    else (readBody (w :: ws)).map (fun c => ⟨none, c⟩)

/-- The FSTEPs of the extended cycle (41_blink_controller.md R144, 90_conflicts.md C2): from `EXT_COUNT` until the
counter has reached `CYCLE_LEN`, and at least one. -/
def extendedLength : Nat := max 1 (cycleLen.toNat - extCount.toNat)

/-- The number of FSTEPs of a fade sequence that starts at level `dim` (41_blink_controller.md R144): the cycles at `dim`
down to 0, the extended cycle, the cycles at 1 up to below `DIM_MAX`. -/
def fadeLength (dim : Nibble) : Nat :=
  cycleLen.toNat * (dim.toNat + 1) + extendedLength + cycleLen.toNat * (dimMax.toNat - 1)

/-- The commands of a source command (R90). `seen` is the level `DIM` at FSTART where the assembler can follow
`fade_active`: only then is FADE expanded (log 21). -/
def Source.expand (seen : Option Nibble) : Source → Option (List Instr)
  | .nop => some [.nop]
  | .init => some [.init]
  | .gen => some [.gen]
  | .outh => some [.outh]
  | .fstart => some [.fstart]
  | .fstep => some [.fstep]
  | .wait ms => if ms ≤ 255 then some [.wait (BitVec.ofNat 8 ms)] else none
  | .boot => some [.init, .outh]
  | .settle => some [.wait settleMs]
  | .fade => (seen.filter (fun d => d ≤ dimMax)).map (fun d => .fstart :: List.replicate (fadeLength d) .fstep)

/-- The words of a source command (R90). -/
def assemble (seen : Option Nibble) (c : Source) : Option (List CmdWord) :=
  (Source.expand seen c).map (fun is => is.map encode)

end Sys2Proof.Machine
end

