-- ==== Sys2Proof/Safety.lean ====
section
/-! DEFINITION. The terms that claims use: which registers a step leaves alone, when a step of the CORE is enabled, what
the event history says, the invariants the spec states, and runs of one command. Nothing here is used by the machine. -/

namespace Sys2Proof.Safety

open Sys2Proof Sys2Proof.Machine

/-! ### Frames -/

/-- The Random Generator's registers agree: `S`, `IDX`, `RAND`. -/
abbrev SameGenerator (s t : State) : Prop := t.lfsr = s.lfsr ∧ t.idx = s.idx ∧ t.rand = s.rand

/-- The fade state agrees: `CNT`, `DIM`, `UP`, `ACT`. -/
abbrev SameFade (s t : State) : Prop := t.cnt = s.cnt ∧ t.dim = s.dim ∧ t.up = s.up ∧ t.act = s.act

/-- The wait handshake agrees: `WAIT_PEND`, `CONT`, `WMS`. -/
abbrev SameWait (s t : State) : Prop := t.waitPend = s.waitPend ∧ t.cont = s.cont ∧ t.wms = s.wms

/-- The fault record agrees: `FAULT`, `CAUSE`, `FCMD`. -/
abbrev SameFault (s t : State) : Prop := t.fault = s.fault ∧ t.cause = s.cause ∧ t.fcmd = s.fcmd

/-- `SEQ` and `MODE` agree. -/
abbrev SameControl (s t : State) : Prop := t.seq = s.seq ∧ t.mode = s.mode

/-- The model's own fields agree: the ports' schedule, the level of `rst`, the transients. -/
abbrev SameEnvironment (s t : State) : Prop := t.inputs = s.inputs ∧ t.rstHeld = s.rstHeld ∧ t.pulses = s.pulses

/-- Every register of 10_state.md R21 agrees. -/
abbrev SameRegisters (s t : State) : Prop :=
  SameGenerator s t ∧ SameFade s t ∧ t.eyes = s.eyes ∧ SameWait s t ∧ SameFault s t ∧ SameControl s t

/-- The registers hold the reset values of 10_state.md R21 and 70_reset_and_hazards.md R231, with the strap's level in
`MODE`. -/
abbrev HoldsResetValues (strap : Mode) (t : State) : Prop :=
  t.lfsr = ⟨0x21#8, 0x2C#8, 0x7F#8, 0x7F#8⟩ ∧ t.idx = 0#2 ∧ t.rand = 0x00#8 ∧
  t.cnt = 0#4 ∧ t.dim = 10#4 ∧ t.up = false ∧ t.act = false ∧ t.eyes = true ∧
  t.waitPend = false ∧ t.cont = .wait ∧ t.wms = 0x00#8 ∧
  t.fault = false ∧ t.cause = .none ∧ t.fcmd = 0x0000#16 ∧ t.seq = .boot0 ∧ t.mode = strap

/-! ### When steps are enabled -/

/-- No reset step is due and none is in progress (70_reset_and_hazards.md R230). -/
abbrev NoReset (s : State) : Prop := s.frame.rst = false ∧ s.rstHeld = false

/-- The accept step is enabled but for an offered word (10_state.md R41). -/
abbrev Ready (s : State) : Prop := NoReset s ∧ s.waitPend = false ∧ s.fault = false

/-- The wait-done step is taken (10_state.md R42). -/
abbrev WaitCompletes (s : State) : Prop :=
  NoReset s ∧ s.fault = false ∧ s.waitPend = true ∧ s.frame.waitDone = true

/-- A run reached the fault state (60_exceptions.md R204): it is a faulted run, never a normal end. -/
def Faulted (s : State) : Bool := s.fault

/-- A run in EXT mode is over: the HOST offers nothing further and no wait is pending, and the run is not a faulted one
(10_state.md R47). R47 does not speak of a reset still to come: that a run is not over while a reset is scheduled, or
while `rst` is held, is the model's choice (DESIGN CHOICE, log 24). -/
def RunOver (s : State) : Bool :=
  decide (s.mode = .ext) && s.inputs.all (fun f => !f.cmdValid && !f.rst) && !s.waitPend && !s.rstHeld && !s.fault

/-! ### What the history says -/

/-- What an event makes of the output's level (10_state.md R45). -/
def eyesAfter (v : Bool) : Event → Bool
  | .reset => true
  | .eyesWrite w => w
  | .accept _ | .retire _ | .gen _ | .waitReq _ | .waitDone | .fault _ _ => v

/-- The level of the last `EyesWrite`, or the reset value 1 if there is none since the last `Reset` (10_state.md R45). -/
def lastEyes (h : List Event) : Bool := h.foldl eyesAfter true

/-- What an event makes of the last byte returned (10_state.md R33). -/
def randAfter (b : Byte) : Event → Byte
  | .reset => 0x00#8
  | .gen c => c
  | .accept _ | .retire _ | .eyesWrite _ | .waitReq _ | .waitDone | .fault _ _ => b

/-- The byte of the last `Gen`, or the reset value 0 if there is none since the last `Reset` (10_state.md R33). -/
def lastGen (h : List Event) : Byte := h.foldl randAfter 0x00#8

/-- `S` and `IDX` after one GEN, as a function of `S` and `IDX` alone (40_random_generator.md R103). -/
def genNext (p : Lfsr × BitVec 2) : Lfsr × BitVec 2 :=
  (p.1.set p.2 (feedback (p.1.get p.2) (p.1.get (nextIndex p.2))), nextIndex p.2)

/-- What an event makes of `S` and `IDX`: a reset or a retired INIT (word 0x0001) loads the seed, a `Gen` advances. -/
def generatorAfter (p : Lfsr × BitVec 2) : Event → Lfsr × BitVec 2
  | .reset => (seed, seedIndex)
  | .retire w => if w = 0x0001#16 then (seed, seedIndex) else p
  | .gen _ => genNext p
  | .accept _ | .eyesWrite _ | .waitReq _ | .waitDone | .fault _ _ => p

/-- `S` and `IDX` as the history determines them (R114): the seed, advanced once for each `Gen` since the last `Reset` or
the last retired INIT. -/
def replay (h : List Event) : Lfsr × BitVec 2 := h.foldl generatorAfter (seed, seedIndex)

/-- The milliseconds an event requests (42_wait_and_misc.md R180). -/
def requestedMs : Event → Nat
  | .waitReq ms => ms.toNat
  | .reset | .accept _ | .retire _ | .eyesWrite _ | .gen _ | .waitDone | .fault _ _ => 0

/-- The milliseconds of waiting that a history requests, nominally (41_blink_controller.md R169). -/
def nominalWait (h : List Event) : Nat := (h.map requestedMs).sum

/-- How many times a history writes `v` to the output (41_blink_controller.md R143). -/
def countWrites (v : Bool) (h : List Event) : Nat := h.countP (fun e => decide (e = .eyesWrite v))

/-- How many times a history accepts the word `w`. -/
def countAccepts (w : CmdWord) (h : List Event) : Nat := h.countP (fun e => decide (e = .accept w))

/-! ### Invariants -/

/-- An FSTEP waits between its two phases (10_state.md R43). -/
abbrev FstepWaits (s : State) : Prop := s.waitPend = true ∧ s.cont = .fstep

/-- The fade state's invariants (41_blink_controller.md R147, 10_state.md R28, R29, R31), at a command boundary and while
an FSTEP waits. -/
abbrev FadeInv (s : State) : Prop :=
  s.dim ≤ 10#4 ∧
  (s.act = true → ¬ (s.up = true ∧ s.dim = 10#4)) ∧
  (¬ FstepWaits s → s.cnt ≤ 9#4 ∨ (s.cnt = 11#4 ∧ s.dim = 0#4 ∧ s.up = true ∧ s.act = true)) ∧
  (FstepWaits s → s.act = true ∧ ((1#4 ≤ s.cnt ∧ s.cnt ≤ 10#4) ∨ (s.cnt = 12#4 ∧ s.dim = 0#4 ∧ s.up = true)))

/-- The LFSR state is not all zero (10_state.md R27). -/
abbrev GeneratorInv (s : State) : Prop := s.lfsr ≠ ⟨0#8, 0#8, 0#8, 0#8⟩

/-- The output is the level of the last write to it (10_state.md R45). -/
abbrev EyesInv (s : State) : Prop := s.eyes = lastEyes s.history

/-- The generator's registers are what the history determines (40_random_generator.md R114). -/
abbrev ReplayInv (s : State) : Prop := (s.lfsr, s.idx) = replay s.history ∧ s.rand = lastGen s.history

/-- The fault record says whether the machine is in the fault state, and a faulted machine has no wait pending
(60_exceptions.md R203, R204). -/
abbrev FaultInv (s : State) : Prop :=
  (s.fault = false → s.cause = .none ∧ s.fcmd = 0x0000#16) ∧
  (s.fault = true → s.cause ≠ .none ∧ s.waitPend = false)

/-- The sequencer keeps its reset value in EXT mode (10_state.md R34). -/
abbrev ExtSeqInv (s : State) : Prop := s.mode = .ext → s.seq = .boot0

/-- What holds in AUTO mode (41_blink_controller.md R144, R168): no fault, a fade is active exactly while the sequencer
steps it, `DIM` is 10 outside a fade, and a pending wait belongs to the sequencer's own command. -/
abbrev AutoInv (s : State) : Prop :=
  s.mode = .auto →
    s.fault = false ∧
    (s.act = true ↔ s.seq = .fstep) ∧
    (s.seq ≠ .fstep → s.dim = 10#4) ∧
    (s.waitPend = true → (s.seq = .fstep ∧ s.cont = .fstep) ∨ (s.seq = .settle ∧ s.cont = .wait ∧ s.wms = 100#8))

/-! ### Runs of one command -/

/-- The state after a command's rule, for commands that always answer a next state. -/
def afterExec (i : Instr) (s : State) : State :=
  match exec i s with
  | .next t => t
  | .fault _ => s
  | .refused _ => s

/-- The state after `k` GENs. -/
def genRun (s : State) (k : Nat) : State := (afterExec .gen)^[k] s

/-- `o_(k+1)` of 40_random_generator.md R109, counted from 0: the byte that the `k`-th GEN after `s` returns. -/
def genByte (s : State) (k : Nat) : Byte := (genRun s (k + 1)).rand

/-- The bit stream of 40_random_generator.md R110: each returned byte from bit 7 down to bit 0. -/
def genBit (s : State) (n : Nat) : Bool := (genByte s (n / 8)).getLsbD (7 - n % 8)

/-- `L` of 40_random_generator.md R107. -/
def feedL (c : Byte) : Byte := c ^^^ (c <<< 2) ^^^ (c <<< 6) ^^^ (c <<< 7)

/-- `M` of 40_random_generator.md R107. -/
def feedM (n : Byte) : Byte := (n >>> 6) ^^^ (n >>> 2) ^^^ (n >>> 1)

/-- The bytewise exclusive or of two LFSR states. -/
def xorLfsr (a b : Lfsr) : Lfsr := ⟨a.s0 ^^^ b.s0, a.s1 ^^^ b.s1, a.s2 ^^^ b.s2, a.s3 ^^^ b.s3⟩

/-- The state in which an accepted FSTEP waits (10_state.md R43). -/
def fstepWait (s : State) : State := afterExec .fstep (s.emit (.accept (encode .fstep)))

/-- One whole FSTEP: its accept step, then its wait-done step (10_state.md R43). -/
def fadeStep (s : State) : State := waitDoneStep (fstepWait s)

/-- The state after `k` whole FSTEPs. -/
def fadeRun (s : State) (k : Nat) : State := fadeStep^[k] s

end Sys2Proof.Safety
end

