-- ==== Sys2Proof/Certificates/Slice0/Obligations.lean ====
section
/-! DEFINITION. The statements for the provers, by the section of the spec they come from. Hypotheses stand on the state,
the input levels and the operands alone, but for statements about whatever step is taken (`step s = .next t`). -/

section

open Sys2Proof Sys2Proof.Machine Sys2Proof.Safety

/-! ### Encoding (spec/30_encoding.md) -/

/-- Decoding the word of a command gives the command back (R80, R83, R86). -/
def Obligations.DecodeOfEncode : Prop :=
  ∀ i : Instr, i.wellFormed = true → decode (encode i) = .legal i

/-- Every legal word is the word of the command it decodes to: no command has two words (R83, R85). -/
def Obligations.EncodeOfDecode : Prop :=
  ∀ (w : CmdWord) (i : Instr), decode w = .legal i → encode i = w

/-- R86 read on the word as a number: which words decode to which command, that all others are illegal, and how many are
legal. -/
def Obligations.LegalWordsExactly : Prop :=
  (∀ (w : CmdWord) (i : Instr), decode w = .legal i ↔
    (w = 0x0000#16 ∧ i = .nop) ∨ (w = 0x0001#16 ∧ i = .init) ∨ (w = 0x0002#16 ∧ i = .gen) ∨
    (w = 0x0003#16 ∧ i = .outh) ∨ (w = 0x0004#16 ∧ i = .fstart) ∨ (w = 0x0005#16 ∧ i = .fstep) ∨
    (w.toNat % 256 = 6 ∧ i = .wait (BitVec.ofNat 8 (w.toNat / 256)))) ∧
  ((Finset.range 65536).filter (fun n => (decode (BitVec.ofNat 16 n)).isLegal = true)).card = 262

/-- A word is legal exactly when its fields are well formed: `RSV` zero, `OP` assigned, `IMM8` zero but for WAIT (R80,
R84, R85). -/
def Obligations.LegalIffFieldsWellFormed : Prop :=
  ∀ w : CmdWord, (decode w).isLegal = (Cmd16.ofWord w).wellFormed

/-- The words of R91 decode to the commands they stand for. -/
def Obligations.ListedWordsDecode : Prop :=
  decode 0x0000#16 = .legal .nop ∧ decode 0x0001#16 = .legal .init ∧ decode 0x0002#16 = .legal .gen ∧
  decode 0x0003#16 = .legal .outh ∧ decode 0x0004#16 = .legal .fstart ∧ decode 0x0005#16 = .legal .fstep ∧
  decode 0x0206#16 = .legal (.wait 2#8) ∧ decode 0x6406#16 = .legal (.wait 100#8) ∧
  decode 0x0006#16 = .legal (.wait 0#8) ∧ decode 0xFF06#16 = .legal (.wait 255#8)

/-- R90: BOOT is INIT then OUTH, SETTLE is WAIT 100, and FADE, where the level at FSTART is seen, is FSTART and as many
FSTEP as R144 says; unseen it is not expanded. Every word of an expansion is legal. -/
def Obligations.PseudoCommandsExpand : Prop :=
  (∀ d : Option Nibble, assemble d .boot = some [0x0001#16, 0x0003#16] ∧ assemble d .settle = some [0x6406#16]) ∧
  assemble none .fade = none ∧
  (∀ d : Nibble, d ≤ 10#4 →
    assemble (some d) .fade = some (0x0004#16 :: List.replicate (10 * d.toNat + 101) 0x0005#16)) ∧
  (∀ (d : Option Nibble) (c : Source) (ws : List CmdWord), assemble d c = some ws →
    ∀ w ∈ ws, (decode w).isLegal = true)

/-! ### The commands' own rules, with their frames -/

/-- Whatever the state, the rule of every command answers a next state. -/
def Obligations.EveryCommandAnswersNext : Prop :=
  ∀ (i : Instr) (s : State), ∃ t, exec i s = .next t

/-- NOP changes nothing, not even the history (42_wait_and_misc.md R190). -/
def Obligations.NopChangesNothing : Prop :=
  ∀ s : State, ∃ t, exec .nop s = .next t ∧ SameRegisters s t ∧ SameEnvironment s t ∧ t.history = s.history

/-- INIT loads the seed and index 0 and leaves every other register, and so `RAND` and `TRIG`, as it was
(40_random_generator.md R101). -/
def Obligations.InitLoadsSeed : Prop :=
  ∀ s : State, ∃ t, exec .init s = .next t ∧ t.lfsr = ⟨0x21#8, 0x2C#8, 0x7F#8, 0x7F#8⟩ ∧ t.idx = 0#2 ∧
    t.rand = s.rand ∧ t.trig = s.trig ∧ SameFade s t ∧ t.eyes = s.eyes ∧ SameWait s t ∧ SameFault s t ∧
    SameControl s t ∧ SameEnvironment s t ∧ t.history = s.history

/-- GEN returns the byte it overwrites, writes the byte of R106's bit-level form over it, advances the index, writes no
other byte of `S`, emits `Gen` and leaves everything else as it was (R102, R103, R106). -/
def Obligations.GenAdvancesGenerator : Prop :=
  ∀ s : State, ∃ t, exec .gen s = .next t ∧
    (∀ cur nxt : Byte, cur = s.lfsr.get s.idx → nxt = s.lfsr.get (s.idx + 1#2) →
      t.rand = cur ∧ t.history = s.history ++ [.gen cur] ∧
      t.lfsr.get s.idx = cur ^^^ (cur.extractLsb' 0 6 ++ nxt.extractLsb' 6 2 : BitVec 8)
        ^^^ (cur.extractLsb' 0 2 ++ nxt.extractLsb' 2 6 : BitVec 8)
        ^^^ (cur.extractLsb' 0 1 ++ nxt.extractLsb' 1 7 : BitVec 8)) ∧
    t.idx = s.idx + 1#2 ∧ (∀ j : BitVec 2, j ≠ s.idx → t.lfsr.get j = s.lfsr.get j) ∧
    SameFade s t ∧ t.eyes = s.eyes ∧ SameWait s t ∧ SameFault s t ∧ SameControl s t ∧ SameEnvironment s t

/-- OUTH drives the output high, emits the write whatever the level was, and leaves everything else as it was
(41_blink_controller.md R131). -/
def Obligations.OuthDrivesHigh : Prop :=
  ∀ s : State, ∃ t, exec .outh s = .next t ∧ t.eyes = true ∧ t.history = s.history ++ [.eyesWrite true] ∧
    SameGenerator s t ∧ SameFade s t ∧ SameWait s t ∧ SameFault s t ∧ SameControl s t ∧ SameEnvironment s t

/-- FSTART, also while a fade is active, resets the counter and the phase and starts the fade. The level `DIM`, the
output and everything else stay (R132 to R134). -/
def Obligations.FstartEntersFade : Prop :=
  ∀ s : State, ∃ t, exec .fstart s = .next t ∧ t.cnt = 0#4 ∧ t.up = false ∧ t.act = true ∧ t.dim = s.dim ∧
    t.eyes = s.eyes ∧ SameGenerator s t ∧ SameWait s t ∧ SameFault s t ∧ SameControl s t ∧ SameEnvironment s t ∧
    t.history = s.history

/-- FSTEP phase A in an active fade (R136): the output writes in order, the increment, the request of 2 ms. The clauses
on `pulses` are the model's choice and not R136's: that the transient of a double write (10_state.md R46) is recorded as
one entry of some width, any, is log 7, and that it is recorded also when the output was high already is log 22. An FSTEP
with `ACT = 0` is `IdleFstepFaults`. -/
def Obligations.FstepPhaseADrivesOutput : Prop :=
  ∀ s : State, s.act = true → ∃ t, exec .fstep s = .next t ∧
    t.eyes = (if s.cnt = s.dim then false else if s.cnt = 0#4 then true else s.eyes) ∧
    t.cnt = s.cnt + 1#4 ∧ t.waitPend = true ∧ t.cont = .fstep ∧ t.wms = 2#8 ∧
    t.history = s.history ++ (if s.cnt = 0#4 then [.eyesWrite true] else []) ++
      (if s.cnt = s.dim then [.eyesWrite false] else []) ++ [.waitReq 2#8] ∧
    (s.cnt = 0#4 ∧ s.dim = 0#4 → ∃ width, t.pulses = s.pulses ++ [width]) ∧
    (¬ (s.cnt = 0#4 ∧ s.dim = 0#4) → t.pulses = s.pulses) ∧
    t.dim = s.dim ∧ t.up = s.up ∧ t.act = true ∧ SameGenerator s t ∧ SameFault s t ∧ SameControl s t ∧
    t.inputs = s.inputs ∧ t.rstHeld = s.rstHeld

/-- An FSTEP with `ACT = 0` performs neither phase and enters the fault state with cause FSTEP_IDLE; no other FSTEP
faults (R139). -/
def Obligations.IdleFstepFaults : Prop :=
  (∀ s : State, s.act = false → ∃ t, exec .fstep s = .next t ∧
    t.fault = true ∧ t.cause = .fstepIdle ∧ t.fcmd = 0x0005#16 ∧
    t.history = s.history ++ [.fault .fstepIdle 0x0005#16] ∧
    SameGenerator s t ∧ SameFade s t ∧ t.eyes = s.eyes ∧ SameWait s t ∧ SameControl s t ∧ SameEnvironment s t) ∧
  (∀ s : State, s.act = true → ∃ t, exec .fstep s = .next t ∧ SameFault s t)

/-- WAIT requests a wait of its operand, for every operand 0 to 255, and leaves everything else as it was
(42_wait_and_misc.md R180, R183). -/
def Obligations.WaitRequestsItsOperand : Prop :=
  ∀ (ms : Byte) (s : State), ∃ t, exec (.wait ms) s = .next t ∧
    t.waitPend = true ∧ t.cont = .wait ∧ t.wms = ms ∧ t.history = s.history ++ [.waitReq ms] ∧
    SameGenerator s t ∧ SameFade s t ∧ t.eyes = s.eyes ∧ SameFault s t ∧ SameControl s t ∧ SameEnvironment s t

/-- No command but INIT and GEN writes the generator's registers (10_state.md R26, R33), and no command but an FSTEP with
`ACT = 0` writes the fault record (60_exceptions.md R200, R202). -/
def Obligations.GeneratorAndFaultWriters : Prop :=
  ∀ (i : Instr) (s t : State), exec i s = .next t →
    (i ≠ .init → i ≠ .gen → SameGenerator s t) ∧
    (¬ (i = .fstep ∧ s.act = false) → SameFault s t)

/-! ### The steps of the machine (spec/10_state.md, 60_exceptions.md, 70_reset_and_hazards.md) -/

/-- A step that is ready and is offered a legal word runs the command it decodes to (R40, R41): `Accept(w)`, the
command's rule, and, if it neither waits nor faulted, `Retire(w)` with the sequencer's advance in AUTO mode. The step's
input levels are used up. -/
def Obligations.StepRunsDecodedCommand : Prop :=
  ∀ (s : State) (w : CmdWord) (i : Instr), Ready s → s.offered = some w → decode w = .legal i →
    i.wellFormed = true →
    ∃ t, exec i ({ s with inputs := s.inputs.tail, history := s.history ++ [.accept w] }) = .next t ∧
      ((t.waitPend = true ∨ t.fault = true) → step s = .next t) ∧
      (t.waitPend = false → t.fault = false → t.mode = .ext →
        step s = .next { t with history := t.history ++ [.retire w] }) ∧
      (t.waitPend = false → t.fault = false → t.mode = .auto →
        step s = .next { t with history := t.history ++ [.retire w], seq := nextSeq t.seq t.trig t.act })

/-- The command source (R40): in AUTO mode the sequencer's word, whatever the command port carries, in EXT mode the word
on `cmd` while `cmd_valid = 1`, and none otherwise. -/
def Obligations.OfferedWordSource : Prop :=
  ∀ s : State,
    (s.mode = .auto → s.offered = some (match s.seq with
      | .boot0 => 0x0001#16
      | .boot1 => 0x0003#16
      | .gen => 0x0002#16
      | .fstart => 0x0004#16
      | .fstep => 0x0005#16
      | .settle => 0x6406#16)) ∧
    (s.mode = .ext → s.frame.cmdValid = true → s.offered = some s.frame.cmd) ∧
    (s.mode = .ext → s.frame.cmdValid = false → s.offered = none)

/-- With no word offered in EXT mode a ready step leaves everything but the ports' schedule as it was. That such a step is
a next state, a stutter, is the model's choice (log 4). -/
def Obligations.NothingOfferedNothingDone : Prop :=
  ∀ s : State, s.mode = .ext → Ready s → s.frame.cmdValid = false →
    step s = .next { s with inputs := s.inputs.tail }

/-- Fault entry (R203), by an accepted illegal word with cause ILLEGAL_CMD or by an accepted FSTEP with `ACT = 0` with
cause FSTEP_IDLE: `FAULT`, `CAUSE`, `FCMD`, the event, no `Retire`, and no other register. -/
def Obligations.FaultEntryRecordsOnly : Prop :=
  ∀ (s : State) (w : CmdWord) (c : Cause), Ready s → s.offered = some w →
    (((decode w).isLegal = false ∧ c = .illegalCmd) ∨ (w = 0x0005#16 ∧ s.act = false ∧ c = .fstepIdle)) →
    ∃ t, step s = .next t ∧ t.fault = true ∧ t.cause = c ∧ t.fcmd = w ∧
      t.history = s.history ++ [.accept w, .fault c w] ∧
      SameGenerator s t ∧ SameFade s t ∧ t.eyes = s.eyes ∧ SameWait s t ∧ SameControl s t ∧
      t.inputs = s.inputs.tail ∧ t.rstHeld = s.rstHeld ∧ t.pulses = s.pulses

/-- In the fault state nothing but a reset step changes a register or the history (R204, R206), and with nothing
scheduled any more the machine stands still, a faulted run (the outcome is the model's reading of R204, log 5; that a step
with levels still to come is a stutter is the model's choice, log 4). -/
def Obligations.FaultStateIsQuiescent : Prop :=
  ∀ s : State, NoReset s → s.fault = true →
    (s.inputs = [] → step s = .fault (.halted s.cause)) ∧
    (s.inputs ≠ [] → step s = .next { s with inputs := s.inputs.tail })

/-- The reset step when `rst` is asserted, in every state, a pending wait and the fault state among them: every register
takes its reset value and `MODE` the strap's level, with the one event `Reset` (R231, R44). -/
def Obligations.ResetLoadsResetValues : Prop :=
  ∀ s : State, s.frame.rst = true → s.rstHeld = false →
    ∃ t, step s = .next t ∧ HoldsResetValues s.frame.mode t ∧ t.history = s.history ++ [.reset] ∧
      t.rstHeld = true ∧ t.inputs = s.inputs.tail ∧ t.pulses = s.pulses

/-- While `rst` is held asserted no step changes a register or the history, and when it is released the reset step is
taken again (R230). That a step with `rst` held is a next state which only uses up its input levels is the model's choice
(log 4), and that one pulse of `rst` records a `Reset` at its assertion and another at its release is the model's reading
of R230 (log 6). -/
def Obligations.ResetHeldThenTakenAgain : Prop :=
  ∀ s : State, s.rstHeld = true →
    (s.frame.rst = true → step s = .next { s with inputs := s.inputs.tail }) ∧
    (s.frame.rst = false → ∃ t, step s = .next t ∧ HoldsResetValues s.frame.mode t ∧
      t.history = s.history ++ [.reset] ∧ t.rstHeld = false ∧ t.inputs = s.inputs.tail ∧ t.pulses = s.pulses)

/-- While a wait is pending and not completed, every register, and with them `wait_req` and `wait_ms`, and the history
stay (42_wait_and_misc.md R181, 10_state.md R43). The block takes no step there: that the model's step is a next state, a
stutter which uses up its input levels, is the model's choice (log 4). -/
def Obligations.PendingWaitHoldsRegisters : Prop :=
  ∀ s : State, NoReset s → s.fault = false → s.waitPend = true → s.frame.waitDone = false →
    step s = .next { s with inputs := s.inputs.tail }

/-- `wait_done` while `WAIT_PEND = 0` has no effect (R42): the step is the same at either level. -/
def Obligations.WaitDoneIgnoredWithNoWait : Prop :=
  ∀ (s : State) (f : Frame) (rest : List Frame) (level : Bool), s.inputs = f :: rest → s.waitPend = false →
    step { s with inputs := { f with waitDone := level } :: rest } = step s

/-- The `cmd` and `cmd_valid` ports do nothing unless `cmd_ready = 1` (10_state.md R40, 70_reset_and_hazards.md R237): in
AUTO mode, while a wait is pending and in the fault state the step is the same whatever they say. -/
def Obligations.CommandPortIgnoredUnlessReady : Prop :=
  ∀ (s : State) (f : Frame) (rest : List Frame) (valid : Bool) (w : CmdWord), s.inputs = f :: rest →
    s.cmdReady = false →
    step { s with inputs := { f with cmdValid := valid, cmd := w } :: rest } = step s

/-- The wait-done step of a WAIT (R42, R183): the wait ends and the command retires; no other register changes but, in
AUTO mode, `SEQ`. -/
def Obligations.WaitDoneRetiresWait : Prop :=
  ∀ s : State, WaitCompletes s → s.cont = .wait →
    ∃ t, step s = .next t ∧ t.waitPend = false ∧ t.cont = s.cont ∧ t.wms = s.wms ∧
      (∃ w : CmdWord, w.toNat = 256 * s.wms.toNat + 6 ∧ t.history = s.history ++ [.waitDone, .retire w]) ∧
      SameGenerator s t ∧ SameFade s t ∧ t.eyes = s.eyes ∧ SameFault s t ∧ t.mode = s.mode ∧
      (s.mode = .ext → t.seq = s.seq) ∧
      t.inputs = s.inputs.tail ∧ t.rstHeld = s.rstHeld ∧ t.pulses = s.pulses

/-- FSTEP phase B in the wait-done step (R137, R42): within a cycle nothing; at a cycle's end the level moves, or turns
at 0, or the fade terminates at 10. -/
def Obligations.FstepPhaseBEndsCycle : Prop :=
  ∀ s : State, WaitCompletes s → s.cont = .fstep →
    ∃ t, step s = .next t ∧ t.waitPend = false ∧
      (if s.cnt < 10#4 then
        t.cnt = s.cnt ∧ t.dim = s.dim ∧ t.up = s.up ∧ t.act = s.act ∧ t.eyes = s.eyes ∧
        t.history = s.history ++ [.waitDone, .retire 0x0005#16]
      else if s.up = true ∧ s.dim = 9#4 then
        t.cnt = 0#4 ∧ t.dim = 10#4 ∧ t.up = true ∧ t.act = false ∧ t.eyes = true ∧
        t.history = s.history ++ [.waitDone, .eyesWrite true, .retire 0x0005#16]
      else if s.up = true then
        t.cnt = 0#4 ∧ t.dim = s.dim + 1#4 ∧ t.up = true ∧ t.act = s.act ∧ t.eyes = s.eyes ∧
        t.history = s.history ++ [.waitDone, .retire 0x0005#16]
      else if s.dim = 0#4 then
        t.cnt = 11#4 ∧ t.dim = 0#4 ∧ t.up = true ∧ t.act = s.act ∧ t.eyes = s.eyes ∧
        t.history = s.history ++ [.waitDone, .retire 0x0005#16]
      else
        t.cnt = 0#4 ∧ t.dim = s.dim - 1#4 ∧ t.up = false ∧ t.act = s.act ∧ t.eyes = s.eyes ∧
        t.history = s.history ++ [.waitDone, .retire 0x0005#16]) ∧
      t.cont = s.cont ∧ t.wms = s.wms ∧ SameGenerator s t ∧ SameFault s t ∧ t.mode = s.mode ∧
      (s.mode = .ext → t.seq = s.seq) ∧
      t.inputs = s.inputs.tail ∧ t.rstHeld = s.rstHeld ∧ t.pulses = s.pulses

/-- A WAIT offered in EXT mode takes exactly two steps of the block however long the WAIT agent takes (R43, R180, R181):
from its accept step on `cmd_ready = 0`, `wait_req = 1` and `wait_ms` is its operand, and the wait-done step retires it.
The run of `idle.length + 2` steps is the model's choice: the schedule of input levels, one for each step, is log 2, and
the idle steps between the two, stutters that are no steps of the block, are log 4. -/
def Obligations.WaitTakesTwoSteps : Prop :=
  ∀ (s : State) (ms : Byte) (offer done : Frame) (idle rest : List Frame),
    s.mode = .ext → s.rstHeld = false → s.waitPend = false → s.fault = false →
    s.inputs = offer :: (idle ++ done :: rest) →
    offer.rst = false → offer.cmdValid = true → offer.cmd = encode (.wait ms) →
    (∀ f ∈ idle, f.rst = false ∧ f.waitDone = false) → done.rst = false → done.waitDone = true →
    (∀ k, k ≤ idle.length → ∃ u, Sys2Proof.core.run (k + 1) s = .next u ∧
      (u.outputs 0#4).cmdReady = false ∧ (u.outputs 0#4).waitReq = true ∧ (u.outputs 0#4).waitMs = ms ∧
      u.history = s.history ++ [.accept (encode (.wait ms)), .waitReq ms]) ∧
    (∃ t, Sys2Proof.core.run (idle.length + 2) s = .next t ∧ t.waitPend = false ∧ t.inputs = rest ∧
      t.history = s.history ++ [.accept (encode (.wait ms)), .waitReq ms, .waitDone, .retire (encode (.wait ms))])

/-- The history is never rewritten: a step only adds events at its end (R45). -/
def Obligations.HistoryOnlyGrows : Prop :=
  ∀ s t : State, step s = .next t → s.history <+: t.history

/-- `FAULT`, `CAUSE` and `FCMD` are written only at fault entry and cleared only by reset; `MODE` is written only by
reset, from the strap (R36). -/
def Obligations.FaultRecordAndModeWriters : Prop :=
  ∀ s t : State, step s = .next t →
    (NoReset s →
      t.mode = s.mode ∧
      (SameFault s t ∨
        (s.fault = false ∧ t.fault = true ∧
          ∃ w c, t.cause = c ∧ t.fcmd = w ∧ t.history = s.history ++ [.accept w, .fault c w]))) ∧
    (¬ NoReset s →
      (t.mode = s.mode ∧ SameFault s t ∧ t.history = s.history) ∨
      (t.mode = s.frame.mode ∧ t.fault = false ∧ t.cause = .none ∧ t.fcmd = 0x0000#16 ∧
        t.history = s.history ++ [.reset]))

/-- `DIM` is written only by an FSTEP's phase B, by one up or down (R29); `UP` only by FSTART, to 0, and by the dim-0
transition of a phase B, to 1 (R30). -/
def Obligations.LevelAndPhaseWriters : Prop :=
  ∀ s t : State, step s = .next t → NoReset s →
    (t.dim ≠ s.dim → FstepWaits s ∧ s.frame.waitDone = true ∧ (t.dim = s.dim + 1#4 ∨ t.dim = s.dim - 1#4)) ∧
    (t.up ≠ s.up →
      (t.up = false ∧ t.history = s.history ++ [.accept 0x0004#16, .retire 0x0004#16]) ∨
      (t.up = true ∧ FstepWaits s ∧ s.frame.waitDone = true ∧ s.dim = 0#4 ∧ t.cnt = 11#4))

/-! ### The sequencer (spec/41_blink_controller.md section 6) -/

/-- In AUTO mode a ready step accepts the word of R161's table for the current `SEQ`. -/
def Obligations.AutoOffersSequencerCommand : Prop :=
  ∀ s : State, s.mode = .auto → Ready s →
    ∃ (t : State) (later : List Event), step s = .next t ∧
      t.history = s.history ++ .accept (match s.seq with
        | .boot0 => 0x0001#16
        | .boot1 => 0x0003#16
        | .gen => 0x0002#16
        | .fstart => 0x0004#16
        | .fstep => 0x0005#16
        | .settle => 0x6406#16) :: later

/-- How `SEQ` moves when the offered command retires, in the accept step for INIT, OUTH, GEN and FSTART and in the
wait-done step for FSTEP and WAIT (R162 to R167). -/
def Obligations.SequencerMovesAtRetire : Prop :=
  ∀ s : State, s.mode = .auto →
    (Ready s → ∃ t, step s = .next t ∧
      (s.seq = .boot0 → t.seq = .boot1) ∧ (s.seq = .boot1 → t.seq = .gen) ∧
      (s.seq = .gen → t.seq = if t.trig = true then .fstart else .settle) ∧
      (s.seq = .fstart → t.seq = .fstep) ∧
      (s.seq = .fstep → t.seq = .fstep) ∧ (s.seq = .settle → t.seq = .settle)) ∧
    (WaitCompletes s → ∃ t, step s = .next t ∧
      (s.seq = .fstep → t.seq = if t.act = true then .fstep else .settle) ∧
      (s.seq = .settle → t.seq = .gen))

/-- `SEQ` holds one of the six codes, changes only in AUTO mode, and in EXT mode keeps its reset value (10_state.md
R34). -/
def Obligations.SeqChangesOnlyInAuto : Prop :=
  (Seq.boot0.code = 0#3 ∧ Seq.boot1.code = 1#3 ∧ Seq.gen.code = 2#3 ∧ Seq.fstart.code = 3#3 ∧ Seq.fstep.code = 4#3 ∧
    Seq.settle.code = 5#3 ∧ ∀ q : Seq, q.code ≠ 6#3 ∧ q.code ≠ 7#3) ∧
  (∀ s t : State, step s = .next t → NoReset s → s.mode = .ext → t.seq = s.seq) ∧
  (∀ s t : State, ExtSeqInv s → step s = .next t → ExtSeqInv t)

/-- The boot of AUTO mode (70_reset_and_hazards.md R235): after INIT and OUTH, whatever the ports carry short of a reset,
the registers are those of the reset state but for `SEQ`. -/
def Obligations.AutoBootRepeatsResetState : Prop :=
  ∀ l : List Frame, (∀ f ∈ l, f.rst = false) →
    ∃ t, Sys2Proof.core.run 2 { State.resetWith .auto with inputs := l } = .next t ∧
      t.seq = .gen ∧ HoldsResetValues .auto { t with seq := .boot0 } ∧
      t.history = [.reset, .accept 0x0001#16, .retire 0x0001#16, .accept 0x0003#16, .eyesWrite true, .retire 0x0003#16]

/-- One outer iteration of the control loop (R169, R143): one GEN, with a trigger FSTART and 201 FSTEPs, then WAIT 100,
and so a nominal 100 ms or 502 ms of requested waiting. That every wait completes in the step after its request is the
model's environment when nothing is scheduled (log 3), said by the hypothesis on `inputs`. -/
def Obligations.AutoOuterIteration : Prop :=
  ∀ s : State, AutoInv s → s.mode = .auto → s.seq = .gen → s.rstHeld = false → s.waitPend = false → s.inputs = [] →
    ∀ n fades fsteps ms : Nat,
      ((n, fades, fsteps, ms) = if 250#8 < s.lfsr.get s.idx then (406, 1, 201, 502) else (3, 0, 0, 100)) →
      ∃ t, Sys2Proof.core.run n s = .next t ∧ AutoInv t ∧ t.mode = .auto ∧ t.seq = .gen ∧ t.waitPend = false ∧
        t.inputs = [] ∧
        countAccepts 0x0002#16 t.history = countAccepts 0x0002#16 s.history + 1 ∧
        countAccepts 0x0004#16 t.history = countAccepts 0x0004#16 s.history + fades ∧
        countAccepts 0x0005#16 t.history = countAccepts 0x0005#16 s.history + fsteps ∧
        countAccepts 0x6406#16 t.history = countAccepts 0x6406#16 s.history + 1 ∧
        nominalWait t.history = nominalWait s.history + ms

/-- No fault is reachable in AUTO mode and the block never stops (R168): the invariant is kept by every step, reset steps
among them, and with it a step in AUTO mode always answers a next state. -/
def Obligations.AutoNeverFaults : Prop :=
  ∀ s : State, AutoInv s →
    (∀ t, step s = .next t → AutoInv t) ∧ (s.mode = .auto → ∃ t, step s = .next t)

/-! ### Invariants that every step keeps -/

/-- The fade state's invariants (R147, R28, R29, R31) are kept by every step. -/
def Obligations.StepKeepsFadeInv : Prop :=
  ∀ s t : State, FadeInv s → step s = .next t → FadeInv t

/-- The LFSR state never becomes all zero (10_state.md R27, 40_random_generator.md R108). -/
def Obligations.StepKeepsGeneratorNonzero : Prop :=
  ∀ s t : State, GeneratorInv s → step s = .next t → GeneratorInv t

/-- The output always has the level of the last write to it in the history, or the reset value 1 since the last reset,
and the two lines are equal to it (10_state.md R45, R37). -/
def Obligations.StepKeepsEyesLastWrite : Prop :=
  ∀ s t : State, EyesInv s → step s = .next t →
    EyesInv t ∧ t.eyesLines = if lastEyes t.history = true then 0b11#2 else 0b00#2

/-- The generator is determined by the history (R114): its state is the seed advanced once for each GEN since the last
reset or INIT, and `RAND` is the last byte returned. No other command, no wait and no mode has a part in it. -/
def Obligations.StepKeepsGeneratorReplay : Prop :=
  ∀ s t : State, ReplayInv s → step s = .next t → ReplayInv t

/-- `FAULT` agrees with `CAUSE`, and no wait is pending in the fault state (60_exceptions.md R203, R204). -/
def Obligations.StepKeepsFaultInv : Prop :=
  ∀ s t : State, FaultInv s → step s = .next t → FaultInv t

/-- After a reset with either level of the strap every invariant holds and every register has its reset value (R21,
R231). -/
def Obligations.ResetMeetsInvariants : Prop :=
  ∀ strap : Mode,
    HoldsResetValues strap (State.resetWith strap) ∧ (State.resetWith strap).history = [.reset] ∧
    FadeInv (State.resetWith strap) ∧ GeneratorInv (State.resetWith strap) ∧ EyesInv (State.resetWith strap) ∧
    ReplayInv (State.resetWith strap) ∧ FaultInv (State.resetWith strap) ∧ ExtSeqInv (State.resetWith strap) ∧
    AutoInv (State.resetWith strap)

/-! ### Laws of the Random Generator (spec/40_random_generator.md) -/

/-- The byte GEN writes is `L(cur) ^ M(nxt)`, both linear over GF(2), and `L` is invertible (R107). -/
def Obligations.FeedbackIsLinear : Prop :=
  (∀ c n : Byte, feedback c n = feedL c ^^^ feedM n) ∧
  (∀ a b : Byte, feedL (a ^^^ b) = feedL a ^^^ feedL b) ∧
  (∀ a b : Byte, feedM (a ^^^ b) = feedM a ^^^ feedM b) ∧
  Function.Bijective feedL

/-- GEN is a bijection on (`S`, `IDX`), and four GENs from index 0 act linearly on the four bytes (R107). -/
def Obligations.GenIsBijection : Prop :=
  (∀ s t : State, exec .gen s = .next t → (t.lfsr, t.idx) = genNext (s.lfsr, s.idx)) ∧
  Function.Bijective genNext ∧
  (∀ a b : Lfsr, (genNext^[4] (xorLfsr a b, 0#2)).1 = xorLfsr (genNext^[4] (a, 0#2)).1 (genNext^[4] (b, 0#2)).1 ∧
    (genNext^[4] (a, 0#2)).2 = 0#2)

/-- The output window (R109): from the seed the first four bytes are those of the seed; each returned byte is `L` and `M`
of the fourth and third before it; and any four bytes in a row are the state they were returned from. -/
def Obligations.OutputWindow : Prop :=
  (∀ s : State, s.lfsr = ⟨0x21#8, 0x2C#8, 0x7F#8, 0x7F#8⟩ → s.idx = 0#2 →
    genByte s 0 = 0x21#8 ∧ genByte s 1 = 0x2C#8 ∧ genByte s 2 = 0x7F#8 ∧ genByte s 3 = 0x7F#8) ∧
  (∀ (s : State) (k : Nat), genByte s (k + 4) = feedL (genByte s k) ^^^ feedM (genByte s (k + 1))) ∧
  (∀ (s : State) (k j : Nat), j < 4 →
    genByte s (k + j) = (genRun s k).lfsr.get ((genRun s k).idx + BitVec.ofNat 2 j))

/-- The bit stream is that of a 32-stage Fibonacci register: `b[n+32] = b[n] ^ b[n+2] ^ b[n+6] ^ b[n+7]` (R110). -/
def Obligations.BitStreamRecurrence : Prop :=
  ∀ (s : State) (n : Nat), genBit s (n + 32) = (genBit s n ^^ genBit s (n + 2) ^^ genBit s (n + 6) ^^ genBit s (n + 7))

/-- `TRIG` is set exactly for the bytes 251 to 255, five of the 256 (R112, R113). -/
def Obligations.TriggerAboveThreshold : Prop :=
  (∀ s : State, s.trig = decide (250 < s.rand.toNat)) ∧
  (∀ s : State, s.trig = true ↔ s.rand.toNat = 251 ∨ s.rand.toNat = 252 ∨ s.rand.toNat = 253 ∨ s.rand.toNat = 254 ∨
    s.rand.toNat = 255) ∧
  ((List.range 256).countP (fun n => triggers (BitVec.ofNat 8 n))) = 5

/-! ### Laws of the fade sequence (spec/41_blink_controller.md section 5) -/

/-- A fade entered by FSTART at any level 0 to 10 takes exactly `10 * d0 + 101` FSTEPs and leaves the output high and the
level at 10 (R144, R146). -/
def Obligations.FadeLengthFromAnyLevel : Prop :=
  ∀ s t : State, s.dim ≤ 10#4 → exec .fstart s = .next t →
    (∀ k, k < 10 * s.dim.toNat + 101 → (fadeRun t k).act = true) ∧
    (∀ u, u = fadeRun t (10 * s.dim.toNat + 101) →
      u.act = false ∧ u.dim = 10#4 ∧ u.cnt = 0#4 ∧ u.up = true ∧ u.eyes = true)

/-- The fade from level 10 (R143): 201 FSTEPs, 100 of their waits lit, 21 writes of 1 and 19 of 0. -/
def Obligations.FullFadeCounts : Prop :=
  ∀ s t u : State, s.dim = 10#4 → exec .fstart s = .next t → u = fadeRun t 201 →
    (∀ k, k < 201 → (fadeRun t k).act = true) ∧ u.act = false ∧
    ((List.range 201).countP (fun k => (fstepWait (fadeRun t k)).eyes)) = 100 ∧
    countWrites true u.history = countWrites true s.history + 21 ∧
    countWrites false u.history = countWrites false s.history + 19 ∧
    nominalWait u.history = nominalWait s.history + 402

/-- The duty of a cycle (R142): a cycle that starts at `CNT = 0` at level `d` has 10 sub-steps and the eyes are lit
during the waits of the first `d` of them; the extended cycle has one sub-step and the eyes stay off. -/
def Obligations.CycleDuty : Prop :=
  (∀ s : State, s.act = true → s.cnt = 0#4 → s.dim ≤ 10#4 →
    (∀ k, k < 10 → (fstepWait (fadeRun s k)).eyes = decide (k < s.dim.toNat) ∧
      (fadeRun s k).cnt.toNat = k ∧ (fadeRun s k).dim = s.dim) ∧
    (fadeRun s 10).cnt = if s.up = false ∧ s.dim = 0#4 then 11#4 else 0#4) ∧
  (∀ s : State, s.act = true → s.cnt = 11#4 → s.dim = 0#4 → s.up = true → s.eyes = false →
    (fstepWait s).eyes = false ∧ (fadeRun s 1).cnt = 0#4 ∧ (fadeRun s 1).dim = 1#4 ∧ (fadeRun s 1).act = true)

/-! ### The ports (spec/10_state.md R37, R38) -/

/-- The observation port reads every register of R21, the packed ones at R21's bit positions and zero above the width,
and its address has no side effect (R38, R61). -/
def Obligations.ObservationPortReadsRegisters : Prop :=
  (∀ s : State,
    (s.readReg 0x0#4).toNat = s.lfsr.s0.toNat ∧ (s.readReg 0x1#4).toNat = s.lfsr.s1.toNat ∧
    (s.readReg 0x2#4).toNat = s.lfsr.s2.toNat ∧ (s.readReg 0x3#4).toNat = s.lfsr.s3.toNat ∧
    (s.readReg 0x4#4).toNat = s.idx.toNat ∧ (s.readReg 0x5#4).toNat = s.rand.toNat ∧
    (s.readReg 0x6#4).toNat = s.cnt.toNat ∧ (s.readReg 0x7#4).toNat = s.dim.toNat ∧
    (s.readReg 0x8#4).toNat = s.up.toNat + 2 * s.act.toNat ∧ (s.readReg 0x9#4).toNat = s.eyes.toNat ∧
    (s.readReg 0xA#4).toNat = s.waitPend.toNat + 2 * s.cont.code.toNat ∧ (s.readReg 0xB#4).toNat = s.wms.toNat ∧
    (s.readReg 0xC#4).toNat = s.fault.toNat + 2 * s.cause.code.toNat ∧ s.readReg 0xD#4 = s.fcmd ∧
    (s.readReg 0xE#4).toNat = s.seq.code.toNat ∧ (s.readReg 0xF#4).toNat = s.mode.code.toNat) ∧
  (∀ (s : State) (f : Frame) (rest : List Frame) (a : Nibble), s.inputs = f :: rest →
    step { s with inputs := { f with dbgAddr := a } :: rest } = step s)

/-- The output ports (R37): `cmd_ready` is set exactly in EXT mode with no wait pending and no fault, `eyes` is `EYES` on
both lines, and the others show their registers. -/
def Obligations.OutputPortsShowState : Prop :=
  ∀ (s : State) (a : Nibble) (o : Outputs), o = s.outputs a →
    (o.cmdReady = true ↔ s.waitPend = false ∧ s.fault = false ∧ s.mode = .ext) ∧
    o.waitReq = s.waitPend ∧ o.waitMs = s.wms ∧ o.eyes = (if s.eyes = true then 0b11#2 else 0b00#2) ∧
    o.randOut = s.rand ∧ o.trig = decide (250#8 < s.rand) ∧ o.fadeActive = s.act ∧ o.fault = s.fault ∧
    o.cause = s.cause.code ∧ o.dbgData = s.readReg a

end
end

