-- ==== Sys2Proof/Laws/Assembler.lean ====
section
/-! SUPPORT. The length of a FADE expansion (spec/41_blink_controller.md R144). -/

namespace Sys2Proof.Machine

/-- The extended cycle has one sub-step (90_conflicts.md C2). -/
@[simp] theorem extendedLength_eq : extendedLength = 1 := rfl

/-- R144: a fade from level `d` has `10 * d + 101` FSTEPs. -/
@[simp] theorem fadeLength_eq (d : Nibble) : fadeLength d = 10 * d.toNat + 101 := by
  have hc : cycleLen.toNat = 10 := rfl
  have hm : dimMax.toNat = 10 := rfl
  rw [fadeLength, extendedLength_eq, hc, hm]
  omega

end Sys2Proof.Machine
end

