-- ==== Sys2Proof/Laws/Decode.lean ====
section
/-! SUPPORT. Fields and words: taking a word apart and putting it together (spec/30_encoding.md R80). -/

namespace Sys2Proof

/-- The word of the fields of a word is the word. -/
@[simp] theorem Cmd16.toWord_ofWord (w : CmdWord) : (Cmd16.ofWord w).toWord = w := by
  apply BitVec.eq_of_getLsbD_eq
  intro i h
  unfold Cmd16.toWord Cmd16.ofWord
  rw [BitVec.getLsbD_append, BitVec.getLsbD_append]
  simp only [BitVec.getLsbD_extractLsb']
  by_cases h4 : i < 4
  · simp [h4]
  · by_cases h8 : i - 4 < 4
    · simp [h4, h8, show 4 + (i - 4) = i by omega]
    · simp [h4, h8, show 8 + (i - 4 - 4) = i by omega, show i - 4 - 4 < 8 by omega]

/-- Every command's `RSV` field is zero. -/
@[simp] theorem Instr.fields_rsv (i : Instr) : i.fields.rsv = 0#4 := rfl

/-- Every term of `Instr` is well formed (R82). -/
@[simp] theorem Instr.wellFormed_true (i : Instr) : i.wellFormed = true := by
  cases i <;> rfl

end Sys2Proof
end

