-- ==== Sys2Proof/Laws/State.lean ====
section
/-! SUPPORT. One lemma for each field and each update of Machine/Ops.lean and Machine/Transitions.lean that changes the
state outright, true by rfl, so that no later proof unfolds an update. -/

namespace Sys2Proof.Machine

open Sys2Proof

variable (s : State) (e : Event) (v : Bool) (c : Cont) (k : Cause) (ms : Byte) (w : CmdWord) (m : Mode)

/-! ### emit -/

@[simp] theorem State.emit_lfsr : (s.emit e).lfsr = s.lfsr := rfl
@[simp] theorem State.emit_idx : (s.emit e).idx = s.idx := rfl
@[simp] theorem State.emit_rand : (s.emit e).rand = s.rand := rfl
@[simp] theorem State.emit_cnt : (s.emit e).cnt = s.cnt := rfl
@[simp] theorem State.emit_dim : (s.emit e).dim = s.dim := rfl
@[simp] theorem State.emit_up : (s.emit e).up = s.up := rfl
@[simp] theorem State.emit_act : (s.emit e).act = s.act := rfl
@[simp] theorem State.emit_eyes : (s.emit e).eyes = s.eyes := rfl
@[simp] theorem State.emit_waitPend : (s.emit e).waitPend = s.waitPend := rfl
@[simp] theorem State.emit_cont : (s.emit e).cont = s.cont := rfl
@[simp] theorem State.emit_wms : (s.emit e).wms = s.wms := rfl
@[simp] theorem State.emit_fault : (s.emit e).fault = s.fault := rfl
@[simp] theorem State.emit_cause : (s.emit e).cause = s.cause := rfl
@[simp] theorem State.emit_fcmd : (s.emit e).fcmd = s.fcmd := rfl
@[simp] theorem State.emit_seq : (s.emit e).seq = s.seq := rfl
@[simp] theorem State.emit_mode : (s.emit e).mode = s.mode := rfl
@[simp] theorem State.emit_history : (s.emit e).history = s.history ++ [e] := rfl
@[simp] theorem State.emit_rstHeld : (s.emit e).rstHeld = s.rstHeld := rfl
@[simp] theorem State.emit_inputs : (s.emit e).inputs = s.inputs := rfl
@[simp] theorem State.emit_pulses : (s.emit e).pulses = s.pulses := rfl

/-! ### writeEyes -/

@[simp] theorem State.writeEyes_lfsr : (s.writeEyes v).lfsr = s.lfsr := rfl
@[simp] theorem State.writeEyes_idx : (s.writeEyes v).idx = s.idx := rfl
@[simp] theorem State.writeEyes_rand : (s.writeEyes v).rand = s.rand := rfl
@[simp] theorem State.writeEyes_cnt : (s.writeEyes v).cnt = s.cnt := rfl
@[simp] theorem State.writeEyes_dim : (s.writeEyes v).dim = s.dim := rfl
@[simp] theorem State.writeEyes_up : (s.writeEyes v).up = s.up := rfl
@[simp] theorem State.writeEyes_act : (s.writeEyes v).act = s.act := rfl
@[simp] theorem State.writeEyes_eyes : (s.writeEyes v).eyes = v := rfl
@[simp] theorem State.writeEyes_waitPend : (s.writeEyes v).waitPend = s.waitPend := rfl
@[simp] theorem State.writeEyes_cont : (s.writeEyes v).cont = s.cont := rfl
@[simp] theorem State.writeEyes_wms : (s.writeEyes v).wms = s.wms := rfl
@[simp] theorem State.writeEyes_fault : (s.writeEyes v).fault = s.fault := rfl
@[simp] theorem State.writeEyes_cause : (s.writeEyes v).cause = s.cause := rfl
@[simp] theorem State.writeEyes_fcmd : (s.writeEyes v).fcmd = s.fcmd := rfl
@[simp] theorem State.writeEyes_seq : (s.writeEyes v).seq = s.seq := rfl
@[simp] theorem State.writeEyes_mode : (s.writeEyes v).mode = s.mode := rfl
@[simp] theorem State.writeEyes_history : (s.writeEyes v).history = s.history ++ [.eyesWrite v] := rfl
@[simp] theorem State.writeEyes_rstHeld : (s.writeEyes v).rstHeld = s.rstHeld := rfl
@[simp] theorem State.writeEyes_inputs : (s.writeEyes v).inputs = s.inputs := rfl
@[simp] theorem State.writeEyes_pulses : (s.writeEyes v).pulses = s.pulses := rfl

/-! ### recordPulse -/

@[simp] theorem State.recordPulse_lfsr : s.recordPulse.lfsr = s.lfsr := rfl
@[simp] theorem State.recordPulse_idx : s.recordPulse.idx = s.idx := rfl
@[simp] theorem State.recordPulse_rand : s.recordPulse.rand = s.rand := rfl
@[simp] theorem State.recordPulse_cnt : s.recordPulse.cnt = s.cnt := rfl
@[simp] theorem State.recordPulse_dim : s.recordPulse.dim = s.dim := rfl
@[simp] theorem State.recordPulse_up : s.recordPulse.up = s.up := rfl
@[simp] theorem State.recordPulse_act : s.recordPulse.act = s.act := rfl
@[simp] theorem State.recordPulse_eyes : s.recordPulse.eyes = s.eyes := rfl
@[simp] theorem State.recordPulse_waitPend : s.recordPulse.waitPend = s.waitPend := rfl
@[simp] theorem State.recordPulse_cont : s.recordPulse.cont = s.cont := rfl
@[simp] theorem State.recordPulse_wms : s.recordPulse.wms = s.wms := rfl
@[simp] theorem State.recordPulse_fault : s.recordPulse.fault = s.fault := rfl
@[simp] theorem State.recordPulse_cause : s.recordPulse.cause = s.cause := rfl
@[simp] theorem State.recordPulse_fcmd : s.recordPulse.fcmd = s.fcmd := rfl
@[simp] theorem State.recordPulse_seq : s.recordPulse.seq = s.seq := rfl
@[simp] theorem State.recordPulse_mode : s.recordPulse.mode = s.mode := rfl
@[simp] theorem State.recordPulse_history : s.recordPulse.history = s.history := rfl
@[simp] theorem State.recordPulse_rstHeld : s.recordPulse.rstHeld = s.rstHeld := rfl
@[simp] theorem State.recordPulse_inputs : s.recordPulse.inputs = s.inputs := rfl
@[simp] theorem State.recordPulse_pulses : s.recordPulse.pulses = s.pulses ++ [Config.pulseWidth s.pulses.length] := rfl

/-! ### requestWait -/

@[simp] theorem State.requestWait_lfsr : (s.requestWait c ms).lfsr = s.lfsr := rfl
@[simp] theorem State.requestWait_idx : (s.requestWait c ms).idx = s.idx := rfl
@[simp] theorem State.requestWait_rand : (s.requestWait c ms).rand = s.rand := rfl
@[simp] theorem State.requestWait_cnt : (s.requestWait c ms).cnt = s.cnt := rfl
@[simp] theorem State.requestWait_dim : (s.requestWait c ms).dim = s.dim := rfl
@[simp] theorem State.requestWait_up : (s.requestWait c ms).up = s.up := rfl
@[simp] theorem State.requestWait_act : (s.requestWait c ms).act = s.act := rfl
@[simp] theorem State.requestWait_eyes : (s.requestWait c ms).eyes = s.eyes := rfl
@[simp] theorem State.requestWait_waitPend : (s.requestWait c ms).waitPend = true := rfl
@[simp] theorem State.requestWait_cont : (s.requestWait c ms).cont = c := rfl
@[simp] theorem State.requestWait_wms : (s.requestWait c ms).wms = ms := rfl
@[simp] theorem State.requestWait_fault : (s.requestWait c ms).fault = s.fault := rfl
@[simp] theorem State.requestWait_cause : (s.requestWait c ms).cause = s.cause := rfl
@[simp] theorem State.requestWait_fcmd : (s.requestWait c ms).fcmd = s.fcmd := rfl
@[simp] theorem State.requestWait_seq : (s.requestWait c ms).seq = s.seq := rfl
@[simp] theorem State.requestWait_mode : (s.requestWait c ms).mode = s.mode := rfl
@[simp] theorem State.requestWait_history : (s.requestWait c ms).history = s.history ++ [.waitReq ms] := rfl
@[simp] theorem State.requestWait_rstHeld : (s.requestWait c ms).rstHeld = s.rstHeld := rfl
@[simp] theorem State.requestWait_inputs : (s.requestWait c ms).inputs = s.inputs := rfl
@[simp] theorem State.requestWait_pulses : (s.requestWait c ms).pulses = s.pulses := rfl

/-! ### raiseFault -/

@[simp] theorem State.raiseFault_lfsr : (s.raiseFault k w).lfsr = s.lfsr := rfl
@[simp] theorem State.raiseFault_idx : (s.raiseFault k w).idx = s.idx := rfl
@[simp] theorem State.raiseFault_rand : (s.raiseFault k w).rand = s.rand := rfl
@[simp] theorem State.raiseFault_cnt : (s.raiseFault k w).cnt = s.cnt := rfl
@[simp] theorem State.raiseFault_dim : (s.raiseFault k w).dim = s.dim := rfl
@[simp] theorem State.raiseFault_up : (s.raiseFault k w).up = s.up := rfl
@[simp] theorem State.raiseFault_act : (s.raiseFault k w).act = s.act := rfl
@[simp] theorem State.raiseFault_eyes : (s.raiseFault k w).eyes = s.eyes := rfl
@[simp] theorem State.raiseFault_waitPend : (s.raiseFault k w).waitPend = s.waitPend := rfl
@[simp] theorem State.raiseFault_cont : (s.raiseFault k w).cont = s.cont := rfl
@[simp] theorem State.raiseFault_wms : (s.raiseFault k w).wms = s.wms := rfl
@[simp] theorem State.raiseFault_fault : (s.raiseFault k w).fault = true := rfl
@[simp] theorem State.raiseFault_cause : (s.raiseFault k w).cause = k := rfl
@[simp] theorem State.raiseFault_fcmd : (s.raiseFault k w).fcmd = w := rfl
@[simp] theorem State.raiseFault_seq : (s.raiseFault k w).seq = s.seq := rfl
@[simp] theorem State.raiseFault_mode : (s.raiseFault k w).mode = s.mode := rfl
@[simp] theorem State.raiseFault_history : (s.raiseFault k w).history = s.history ++ [.fault k w] := rfl
@[simp] theorem State.raiseFault_rstHeld : (s.raiseFault k w).rstHeld = s.rstHeld := rfl
@[simp] theorem State.raiseFault_inputs : (s.raiseFault k w).inputs = s.inputs := rfl
@[simp] theorem State.raiseFault_pulses : (s.raiseFault k w).pulses = s.pulses := rfl

/-! ### resetStep -/

@[simp] theorem State.resetStep_lfsr : (s.resetStep m).lfsr = seed := rfl
@[simp] theorem State.resetStep_idx : (s.resetStep m).idx = seedIndex := rfl
@[simp] theorem State.resetStep_rand : (s.resetStep m).rand = 0x00#8 := rfl
@[simp] theorem State.resetStep_cnt : (s.resetStep m).cnt = 0#4 := rfl
@[simp] theorem State.resetStep_dim : (s.resetStep m).dim = dimMax := rfl
@[simp] theorem State.resetStep_up : (s.resetStep m).up = false := rfl
@[simp] theorem State.resetStep_act : (s.resetStep m).act = false := rfl
@[simp] theorem State.resetStep_eyes : (s.resetStep m).eyes = true := rfl
@[simp] theorem State.resetStep_waitPend : (s.resetStep m).waitPend = false := rfl
@[simp] theorem State.resetStep_cont : (s.resetStep m).cont = .wait := rfl
@[simp] theorem State.resetStep_wms : (s.resetStep m).wms = 0x00#8 := rfl
@[simp] theorem State.resetStep_fault : (s.resetStep m).fault = false := rfl
@[simp] theorem State.resetStep_cause : (s.resetStep m).cause = .none := rfl
@[simp] theorem State.resetStep_fcmd : (s.resetStep m).fcmd = 0x0000#16 := rfl
@[simp] theorem State.resetStep_seq : (s.resetStep m).seq = .boot0 := rfl
@[simp] theorem State.resetStep_mode : (s.resetStep m).mode = m := rfl
@[simp] theorem State.resetStep_history : (s.resetStep m).history = s.history ++ [.reset] := rfl
@[simp] theorem State.resetStep_rstHeld : (s.resetStep m).rstHeld = s.rstHeld := rfl
@[simp] theorem State.resetStep_inputs : (s.resetStep m).inputs = s.inputs := rfl
@[simp] theorem State.resetStep_pulses : (s.resetStep m).pulses = s.pulses := rfl

/-! ### consume -/

@[simp] theorem State.consume_lfsr : s.consume.lfsr = s.lfsr := rfl
@[simp] theorem State.consume_idx : s.consume.idx = s.idx := rfl
@[simp] theorem State.consume_rand : s.consume.rand = s.rand := rfl
@[simp] theorem State.consume_cnt : s.consume.cnt = s.cnt := rfl
@[simp] theorem State.consume_dim : s.consume.dim = s.dim := rfl
@[simp] theorem State.consume_up : s.consume.up = s.up := rfl
@[simp] theorem State.consume_act : s.consume.act = s.act := rfl
@[simp] theorem State.consume_eyes : s.consume.eyes = s.eyes := rfl
@[simp] theorem State.consume_waitPend : s.consume.waitPend = s.waitPend := rfl
@[simp] theorem State.consume_cont : s.consume.cont = s.cont := rfl
@[simp] theorem State.consume_wms : s.consume.wms = s.wms := rfl
@[simp] theorem State.consume_fault : s.consume.fault = s.fault := rfl
@[simp] theorem State.consume_cause : s.consume.cause = s.cause := rfl
@[simp] theorem State.consume_fcmd : s.consume.fcmd = s.fcmd := rfl
@[simp] theorem State.consume_seq : s.consume.seq = s.seq := rfl
@[simp] theorem State.consume_mode : s.consume.mode = s.mode := rfl
@[simp] theorem State.consume_history : s.consume.history = s.history := rfl
@[simp] theorem State.consume_rstHeld : s.consume.rstHeld = s.rstHeld := rfl
@[simp] theorem State.consume_inputs : s.consume.inputs = s.inputs.tail := rfl
@[simp] theorem State.consume_pulses : s.consume.pulses = s.pulses := rfl

end Sys2Proof.Machine
end

