-- ==== Sys2Proof/Laws/Registers.lean ====
section
/-! SUPPORT. What the operations on the registers can do, said once for each: the LFSR array, the output writes of a
sub-step, the end of a cycle, the retiring of a command. -/

namespace Sys2Proof.Machine

open Sys2Proof

/-! ### The LFSR array -/

/-- A byte written is the byte read. -/
@[simp] theorem Lfsr.get_set_same (a : Lfsr) (i : BitVec 2) (v : Byte) : (a.set i v).get i = v := by
  unfold Lfsr.get Lfsr.set
  generalize i.toFin = k
  match k with
  | 0 | 1 | 2 | 3 => rfl

/-- A write to one byte leaves the others. -/
theorem Lfsr.get_set_other (a : Lfsr) {i j : BitVec 2} (v : Byte) (h : j ≠ i) : (a.set i v).get j = a.get j := by
  have h' : j.toFin ≠ i.toFin := fun e => h (BitVec.eq_of_toFin_eq e)
  revert h'
  unfold Lfsr.get Lfsr.set
  generalize i.toFin = k
  generalize j.toFin = l
  match k, l with
  | 0, 0 | 1, 1 | 2, 2 | 3, 3 => exact fun e => absurd rfl e
  | 0, 1 | 0, 2 | 0, 3 | 1, 0 | 1, 2 | 1, 3 | 2, 0 | 2, 1 | 2, 3 | 3, 0 | 3, 1 | 3, 2 => exact fun _ => rfl

/-- Four bytes are what their reads are. -/
theorem Lfsr.ext_get {a b : Lfsr} (h : ∀ i, a.get i = b.get i) : a = b := by
  have h0 := h 0#2
  have h1 := h 1#2
  have h2 := h 2#2
  have h3 := h 3#2
  cases a
  cases b
  simp_all [Lfsr.get]

/-! ### The reset step (70_reset_and_hazards.md R231) -/

/-- The reset step leaves the registers of the machine right after reset; what is not a register goes on. -/
theorem resetStep_eq (m : Mode) (s : State) :
    s.resetStep m = { State.resetWith m with
      history := s.history ++ [.reset], rstHeld := s.rstHeld, inputs := s.inputs, pulses := s.pulses } := rfl

/-! ### The output writes of a sub-step (41_blink_controller.md R136) -/

/-- `fadeDrive` changes `EYES`, the history and the transients, and nothing else. -/
theorem fadeDrive_eq (s : State) :
    fadeDrive s = { s with
      eyes := if s.cnt = s.dim then false else if s.cnt = 0#4 then true else s.eyes
      history := s.history ++ (if s.cnt = 0#4 then [.eyesWrite true] else []) ++
        (if s.cnt = s.dim then [.eyesWrite false] else [])
      pulses := if s.cnt = 0#4 ∧ s.cnt = s.dim then s.pulses ++ [Config.pulseWidth s.pulses.length]
        else s.pulses } := by
  unfold fadeDrive
  by_cases h : s.cnt = 0#4 <;> by_cases l : s.cnt = s.dim
  · simp only [decide_eq_true h, decide_eq_true l, if_pos h, if_pos l, if_pos (And.intro h l)]
    rfl
  · simp only [decide_eq_true h, decide_eq_false l, if_pos h, if_neg l, if_neg (fun c : _ ∧ _ => l c.2),
      List.append_nil]
    rfl
  · simp only [decide_eq_false h, decide_eq_true l, if_neg h, if_pos l, if_neg (fun c : _ ∧ _ => h c.1),
      List.append_nil]
    rfl
  · simp only [decide_eq_false h, decide_eq_false l, if_neg h, if_neg l, if_neg (fun c : _ ∧ _ => h c.1),
      List.append_nil]
    rfl

/-- Phase A of FSTEP, as one update (R136). -/
theorem fstepPhaseA_eq (s : State) :
    fstepPhaseA s = { s with
      eyes := if s.cnt = s.dim then false else if s.cnt = 0#4 then true else s.eyes
      cnt := s.cnt + 1#4
      cont := .fstep
      wms := stepMs
      waitPend := true
      history := s.history ++ (if s.cnt = 0#4 then [.eyesWrite true] else []) ++
        (if s.cnt = s.dim then [.eyesWrite false] else []) ++ [.waitReq stepMs]
      pulses := if s.cnt = 0#4 ∧ s.cnt = s.dim then s.pulses ++ [Config.pulseWidth s.pulses.length]
        else s.pulses } := by
  unfold fstepPhaseA
  rw [fadeDrive_eq]
  rfl

/-! ### The end of a cycle (41_blink_controller.md R137) -/

/-- Everything phase B of FSTEP can do. -/
theorem fstepPhaseB_cases (s : State) :
    (s.cnt < cycleLen ∧ fstepPhaseB s = s) ∨
    (cycleLen ≤ s.cnt ∧ s.up = true ∧ s.dim + 1#4 = dimMax ∧
      fstepPhaseB s = { s with
        dim := s.dim + 1#4, cnt := 0#4, eyes := true, act := false, history := s.history ++ [.eyesWrite true] }) ∨
    (cycleLen ≤ s.cnt ∧ s.up = true ∧ s.dim + 1#4 ≠ dimMax ∧
      fstepPhaseB s = { s with dim := s.dim + 1#4, cnt := 0#4 }) ∨
    (cycleLen ≤ s.cnt ∧ s.up = false ∧ s.dim = 0#4 ∧ fstepPhaseB s = { s with cnt := extCount, up := true }) ∨
    (cycleLen ≤ s.cnt ∧ s.up = false ∧ s.dim ≠ 0#4 ∧ fstepPhaseB s = { s with dim := s.dim - 1#4, cnt := 0#4 }) := by
  unfold fstepPhaseB
  by_cases hc : cycleLen ≤ s.cnt
  · cases hu : s.up
    · by_cases hd : s.dim = 0#4 <;> simp [hc, hd]
    · by_cases hd : s.dim + 1#4 = dimMax
      · exact .inr (.inl ⟨hc, rfl, hd, by simp only [hc, hd, if_true]; rfl⟩)
      · exact .inr (.inr (.inl ⟨hc, rfl, hd, by simp only [hc, hd, if_true, if_false]⟩))
  · exact .inl ⟨BitVec.not_le.mp hc, by simp [hc]⟩

/-- What phase B of FSTEP never writes (R138). -/
theorem fstepPhaseB_frame (s : State) :
    fstepPhaseB s = { fstepPhaseB s with
      lfsr := s.lfsr
      idx := s.idx
      rand := s.rand
      waitPend := s.waitPend
      cont := s.cont
      wms := s.wms
      fault := s.fault
      cause := s.cause
      fcmd := s.fcmd
      seq := s.seq
      mode := s.mode
      rstHeld := s.rstHeld
      inputs := s.inputs
      pulses := s.pulses } := by
  rcases fstepPhaseB_cases s with ⟨_, h⟩ | ⟨_, _, _, h⟩ | ⟨_, _, _, h⟩ | ⟨_, _, _, h⟩ | ⟨_, _, _, h⟩ <;> rw [h]

@[simp] theorem fstepPhaseB_lfsr (s : State) : (fstepPhaseB s).lfsr = s.lfsr := by
  rw [fstepPhaseB_frame]
@[simp] theorem fstepPhaseB_idx (s : State) : (fstepPhaseB s).idx = s.idx := by
  rw [fstepPhaseB_frame]
@[simp] theorem fstepPhaseB_rand (s : State) : (fstepPhaseB s).rand = s.rand := by
  rw [fstepPhaseB_frame]
@[simp] theorem fstepPhaseB_waitPend (s : State) : (fstepPhaseB s).waitPend = s.waitPend := by
  rw [fstepPhaseB_frame]
@[simp] theorem fstepPhaseB_cont (s : State) : (fstepPhaseB s).cont = s.cont := by
  rw [fstepPhaseB_frame]
@[simp] theorem fstepPhaseB_wms (s : State) : (fstepPhaseB s).wms = s.wms := by
  rw [fstepPhaseB_frame]
@[simp] theorem fstepPhaseB_fault (s : State) : (fstepPhaseB s).fault = s.fault := by
  rw [fstepPhaseB_frame]
@[simp] theorem fstepPhaseB_cause (s : State) : (fstepPhaseB s).cause = s.cause := by
  rw [fstepPhaseB_frame]
@[simp] theorem fstepPhaseB_fcmd (s : State) : (fstepPhaseB s).fcmd = s.fcmd := by
  rw [fstepPhaseB_frame]
@[simp] theorem fstepPhaseB_seq (s : State) : (fstepPhaseB s).seq = s.seq := by
  rw [fstepPhaseB_frame]
@[simp] theorem fstepPhaseB_mode (s : State) : (fstepPhaseB s).mode = s.mode := by
  rw [fstepPhaseB_frame]
@[simp] theorem fstepPhaseB_rstHeld (s : State) : (fstepPhaseB s).rstHeld = s.rstHeld := by
  rw [fstepPhaseB_frame]
@[simp] theorem fstepPhaseB_inputs (s : State) : (fstepPhaseB s).inputs = s.inputs := by
  rw [fstepPhaseB_frame]
@[simp] theorem fstepPhaseB_pulses (s : State) : (fstepPhaseB s).pulses = s.pulses := by
  rw [fstepPhaseB_frame]

/-! ### Retiring a command (10_state.md R41, R42) -/

/-- In EXT mode the sequencer stays. -/
theorem advanceSeq_ext {s : State} (h : s.mode = .ext) : s.advanceSeq = s := by
  simp [State.advanceSeq, h]

/-- In AUTO mode the sequencer moves. -/
theorem advanceSeq_auto {s : State} (h : s.mode = .auto) :
    s.advanceSeq = { s with seq := nextSeq s.seq s.trig s.act } := by
  simp [State.advanceSeq, h]

/-- `retire` adds its event and moves at most `SEQ`. -/
theorem retire_eq (w : CmdWord) (s : State) :
    s.retire w = { s with
      history := s.history ++ [.retire w]
      seq := if s.mode = .auto then nextSeq s.seq s.trig s.act else s.seq } := by
  unfold State.retire
  cases h : s.mode
  · rw [advanceSeq_auto (by simp [h])]
    simp [State.trig, h, State.emit]
  · rw [advanceSeq_ext (by simp [h])]
    simp [State.emit, h]

@[simp] theorem retire_lfsr (w : CmdWord) (s : State) : (s.retire w).lfsr = s.lfsr := by
  rw [retire_eq]

@[simp] theorem retire_idx (w : CmdWord) (s : State) : (s.retire w).idx = s.idx := by
  rw [retire_eq]

@[simp] theorem retire_rand (w : CmdWord) (s : State) : (s.retire w).rand = s.rand := by
  rw [retire_eq]

@[simp] theorem retire_cnt (w : CmdWord) (s : State) : (s.retire w).cnt = s.cnt := by
  rw [retire_eq]

@[simp] theorem retire_dim (w : CmdWord) (s : State) : (s.retire w).dim = s.dim := by
  rw [retire_eq]

@[simp] theorem retire_up (w : CmdWord) (s : State) : (s.retire w).up = s.up := by
  rw [retire_eq]

@[simp] theorem retire_act (w : CmdWord) (s : State) : (s.retire w).act = s.act := by
  rw [retire_eq]

@[simp] theorem retire_eyes (w : CmdWord) (s : State) : (s.retire w).eyes = s.eyes := by
  rw [retire_eq]

@[simp] theorem retire_waitPend (w : CmdWord) (s : State) : (s.retire w).waitPend = s.waitPend := by
  rw [retire_eq]

@[simp] theorem retire_cont (w : CmdWord) (s : State) : (s.retire w).cont = s.cont := by
  rw [retire_eq]

@[simp] theorem retire_wms (w : CmdWord) (s : State) : (s.retire w).wms = s.wms := by
  rw [retire_eq]

@[simp] theorem retire_fault (w : CmdWord) (s : State) : (s.retire w).fault = s.fault := by
  rw [retire_eq]

@[simp] theorem retire_cause (w : CmdWord) (s : State) : (s.retire w).cause = s.cause := by
  rw [retire_eq]

@[simp] theorem retire_fcmd (w : CmdWord) (s : State) : (s.retire w).fcmd = s.fcmd := by
  rw [retire_eq]

@[simp] theorem retire_mode (w : CmdWord) (s : State) : (s.retire w).mode = s.mode := by
  rw [retire_eq]

@[simp] theorem retire_rstHeld (w : CmdWord) (s : State) : (s.retire w).rstHeld = s.rstHeld := by
  rw [retire_eq]

@[simp] theorem retire_inputs (w : CmdWord) (s : State) : (s.retire w).inputs = s.inputs := by
  rw [retire_eq]

@[simp] theorem retire_pulses (w : CmdWord) (s : State) : (s.retire w).pulses = s.pulses := by
  rw [retire_eq]

@[simp] theorem retire_history (w : CmdWord) (s : State) : (s.retire w).history = s.history ++ [.retire w] := by
  rw [retire_eq]

theorem retire_seq (w : CmdWord) (s : State) :
    (s.retire w).seq = if s.mode = .auto then nextSeq s.seq s.trig s.act else s.seq := by
  rw [retire_eq]

end Sys2Proof.Machine
end

