-- ==== Sys2Proof/Laws/Steps.lean ====
section
/-! SUPPORT. What each command's rule answers, and everything a step can do, said once. -/

namespace Sys2Proof.Machine

open Sys2Proof

/-! ### The commands -/

theorem exec_nop (s : State) : exec .nop s = .next s := rfl

theorem exec_init (s : State) : exec .init s = .next { s with lfsr := seed, idx := seedIndex } := rfl

theorem exec_gen (s : State) :
    exec .gen s = .next { s with
      lfsr := s.lfsr.set s.idx (feedback s.curByte s.nxtByte)
      idx := nextIndex s.idx
      rand := s.curByte
      history := s.history ++ [.gen s.curByte] } := rfl

theorem exec_outh (s : State) : exec .outh s = .next (s.writeEyes true) := rfl

theorem exec_fstart (s : State) : exec .fstart s = .next { s with cnt := 0#4, up := false, act := true } := rfl

theorem exec_fstep_active {s : State} (h : s.act = true) : exec .fstep s = .next (fstepPhaseA s) := by
  simp [exec, execFstep, h]

theorem exec_fstep_idle {s : State} (h : s.act = false) :
    exec .fstep s = .next (s.raiseFault .fstepIdle 0x0005#16) := by
  simp only [exec, execFstep, h]
  rfl

theorem exec_wait (ms : Byte) (s : State) : exec (.wait ms) s = .next (s.requestWait .wait ms) := by
  simp [exec, execWait, waitOperand]

/-! ### The accept step -/

/-- A command that waits or faulted does not retire in its accept step. -/
theorem finishAccept_stay {w : CmdWord} {s : State} (h : s.waitPend = true ∨ s.fault = true) :
    finishAccept w s = s := by
  rcases h with h | h <;> simp [finishAccept, h]

/-- Every other command retires in its accept step. -/
theorem finishAccept_retire {w : CmdWord} {s : State} (hw : s.waitPend = false) (hf : s.fault = false) :
    finishAccept w s = s.retire w := by
  simp [finishAccept, hw, hf]

/-- Everything an accept step that answers a next state can do. -/
theorem acceptStep_cases {w : CmdWord} {s t : State} (h : acceptStep w s = .next t) :
    ((decode w).isLegal = false ∧ t = (s.emit (.accept w)).raiseFault .illegalCmd w) ∨
    (∃ i u, decode w = .legal i ∧ exec i (s.emit (.accept w)) = .next u ∧ t = finishAccept w u) := by
  unfold acceptStep at h
  split at h
  · rename_i i hd
    cases he : exec i (s.emit (.accept w)) with
    | next u =>
      rw [he] at h
      exact .inr ⟨i, u, hd, he, by simpa [finishOutcome] using h.symm⟩
    | fault r => rw [he] at h; cases h
    | refused r => rw [he] at h; cases h
  · rename_i why hd
    exact .inl ⟨by simp [hd, Decoded.isLegal], by simpa using h.symm⟩

/-! ### The wait-done step -/

/-- The wait-done step of a WAIT: it retires, and nothing else (42_wait_and_misc.md R183). -/
theorem waitDoneStep_wait {s : State} (h : s.cont = .wait) :
    waitDoneStep s = ({ s with
      waitPend := false, history := s.history ++ [.waitDone] } : State).retire (encode (.wait s.wms)) := by
  simp only [waitDoneStep, State.continuation, State.waitingWord, State.emit_cont, h]
  rfl

/-- The wait-done step of an FSTEP: phase B, and it retires (10_state.md R42). -/
theorem waitDoneStep_fstep {s : State} (h : s.cont = .fstep) :
    waitDoneStep s = (fstepPhaseB { s with
      waitPend := false, history := s.history ++ [.waitDone] }).retire 0x0005#16 := by
  simp only [waitDoneStep, State.continuation, State.waitingWord, State.emit_cont, h]
  rfl

/-! ### The step -/

/-- Everything a step that answers a next state can do. -/
theorem step_cases {s t : State} (h : step s = .next t) :
    (s.frame.rst = true ∧ s.rstHeld = true ∧ t = s.consume) ∨
    (s.frame.rst = true ∧ s.rstHeld = false ∧
      t = State.resetStep s.frame.mode { s.consume with rstHeld := true }) ∨
    (s.frame.rst = false ∧ s.rstHeld = true ∧
      t = State.resetStep s.frame.mode { s.consume with rstHeld := false }) ∨
    (s.frame.rst = false ∧ s.rstHeld = false ∧
      ((s.fault = true ∧ s.inputs ≠ [] ∧ t = s.consume) ∨
       (s.fault = false ∧ s.waitPend = true ∧ s.frame.waitDone = false ∧ t = s.consume) ∨
       (s.fault = false ∧ s.waitPend = true ∧ s.frame.waitDone = true ∧ t = waitDoneStep s.consume) ∨
       (s.fault = false ∧ s.waitPend = false ∧ s.offered = none ∧ t = s.consume) ∨
       (s.fault = false ∧ s.waitPend = false ∧
         ∃ w, s.offered = some w ∧ acceptStep w s.consume = .next t))) := by
  unfold step cycle at h
  cases hr : s.frame.rst <;> cases hh : s.rstHeld <;> simp only [hr, hh, if_true, if_false, Bool.false_eq_true] at h
  · refine .inr (.inr (.inr ⟨rfl, rfl, ?_⟩))
    cases hf : s.fault <;> simp only [hf, if_true, if_false, Bool.false_eq_true] at h
    · cases hp : s.waitPend <;> simp only [hp, if_true, if_false, Bool.false_eq_true] at h
      · cases ho : s.offered with
        | none =>
          rw [ho] at h
          exact .inr (.inr (.inr (.inl ⟨rfl, rfl, rfl, by simpa using h.symm⟩)))
        | some w =>
          rw [ho] at h
          exact .inr (.inr (.inr (.inr ⟨rfl, rfl, w, rfl, h⟩)))
      · cases hd : s.frame.waitDone <;> simp only [hd, if_true, if_false, Bool.false_eq_true] at h
        · exact .inr (.inl ⟨rfl, rfl, rfl, by simpa using h.symm⟩)
        · exact .inr (.inr (.inl ⟨rfl, rfl, rfl, by simpa using h.symm⟩))
    · by_cases hi : s.inputs = []
      · simp [hi] at h
      · simp only [hi, if_false] at h
        exact .inl ⟨rfl, hi, by simpa using h.symm⟩
  · exact .inr (.inr (.inl ⟨rfl, rfl, by simpa using h.symm⟩))
  · exact .inr (.inl ⟨rfl, rfl, by simpa using h.symm⟩)
  · exact .inl ⟨rfl, rfl, by simpa using h.symm⟩

end Sys2Proof.Machine
end

