-- ==== Sys2Proof/Laws/History.lean ====
section
/-! SUPPORT. What a history says after more events have been added to it. -/

namespace Sys2Proof.Safety

open Sys2Proof Sys2Proof.Machine

theorem lastEyes_append (h l : List Event) : lastEyes (h ++ l) = l.foldl eyesAfter (lastEyes h) := by
  simp [lastEyes, List.foldl_append]

theorem lastGen_append (h l : List Event) : lastGen (h ++ l) = l.foldl randAfter (lastGen h) := by
  simp [lastGen, List.foldl_append]

theorem replay_append (h l : List Event) : replay (h ++ l) = l.foldl generatorAfter (replay h) := by
  simp [replay, List.foldl_append]

theorem nominalWait_append (h l : List Event) : nominalWait (h ++ l) = nominalWait h + nominalWait l := by
  simp [nominalWait]

theorem countWrites_append (v : Bool) (h l : List Event) :
    countWrites v (h ++ l) = countWrites v h + countWrites v l := by
  simp [countWrites]

theorem countAccepts_append (w : CmdWord) (h l : List Event) :
    countAccepts w (h ++ l) = countAccepts w h + countAccepts w l := by
  simp [countAccepts]

end Sys2Proof.Safety
end

