-- ==== Sys2Proof/Laws/PerInstr.lean ====
section
/-! SUPPORT. A fact of each command as syntax: its word has the match value of its row of spec/opcode_table.json under
the row's mask (30_encoding.md R83). -/

namespace Sys2Proof.Laws

open Sys2Proof

/-- The `mask` of the row. -/
def rowMask : Instr → CmdWord
  | .nop | .init | .gen | .outh | .fstart | .fstep => 0xFFFF#16
  | .wait _ => 0x00FF#16

/-- The `match` value of the row. -/
def rowMatch : Instr → CmdWord
  | .nop => 0x0000#16
  | .init => 0x0001#16
  | .gen => 0x0002#16
  | .outh => 0x0003#16
  | .fstart => 0x0004#16
  | .fstep => 0x0005#16
  | .wait _ => 0x0006#16

/-- The command's word matches its row. -/
def MatchesRow.Statement (i : Instr) : Prop := encode i &&& rowMask i = rowMatch i

theorem MatchesRow.nop : MatchesRow.Statement .nop := by
  unfold MatchesRow.Statement
  decide

theorem MatchesRow.init : MatchesRow.Statement .init := by
  unfold MatchesRow.Statement
  decide

theorem MatchesRow.gen : MatchesRow.Statement .gen := by
  unfold MatchesRow.Statement
  decide

theorem MatchesRow.outh : MatchesRow.Statement .outh := by
  unfold MatchesRow.Statement
  decide

theorem MatchesRow.fstart : MatchesRow.Statement .fstart := by
  unfold MatchesRow.Statement
  decide

theorem MatchesRow.fstep : MatchesRow.Statement .fstep := by
  unfold MatchesRow.Statement
  decide

theorem MatchesRow.wait (ms : Byte) : MatchesRow.Statement (.wait ms) := by
  unfold MatchesRow.Statement
  revert ms
  decide

end Sys2Proof.Laws
end

