-- ==== Sys2Proof/Tests/Slice0.lean ====
section
/-! SUPPORT. Tests of the model on fixed values, taken from spec/95_test_vectors.md and the worked examples of the rules,
and for each statement with hypotheses a state that meets them. -/

namespace Sys2Proof.Tests

open Sys2Proof Sys2Proof.Machine Sys2Proof.Safety

/-! ### Helpers -/

/-- The next state of an outcome, if it is one. -/
def nextOf : Host.Outcome State Fault Refusal → Option State
  | .next t => some t
  | .fault _ => none
  | .refused _ => none

/-- A level of the ports: HOST offers a word. -/
def offer (w : CmdWord) : Frame := ⟨false, .ext, true, w, false, 0#4⟩

/-- Nothing happens on the ports. -/
def idle : Frame := ⟨false, .ext, false, 0#16, false, 0#4⟩

/-- WAIT reports completion. -/
def done : Frame := ⟨false, .ext, false, 0#16, true, 0#4⟩

/-- HOST asserts `rst` with the strap at EXT. -/
def rst : Frame := ⟨true, .ext, false, 0#16, false, 0#4⟩

/-- The reset state in EXT mode with the given levels to come. -/
def ext (l : List Frame) : State := { State.resetWith .ext with inputs := l }

/-- In EXT mode, a fade at the given counter, level and phase. -/
def fade (cnt dim : Nibble) (up : Bool) (l : List Frame) : State :=
  { ext l with cnt := cnt, dim := dim, up := up, act := true, eyes := false }

/-- A fade whose FSTEP waits. -/
def fadeWaits (cnt dim : Nibble) (up : Bool) (l : List Frame) : State :=
  { fade cnt dim up l with waitPend := true, cont := .fstep, wms := 2#8 }

/-- AUTO mode at a position of the control loop. -/
def auto (q : Seq) : State := { State.resetWith .auto with seq := q, act := decide (q = .fstep) }

/-! ### Well-formedness: an ill-formed term for each check, refused -/

theorem test_rsv_refused : Cmd16.rsvClear ⟨0#8, 1#4, 6#4⟩ = false := by decide
theorem test_rsv_ill_formed : Cmd16.wellFormed ⟨0#8, 1#4, 6#4⟩ = false := by decide
theorem test_op_ill_formed : Cmd16.wellFormed ⟨0#8, 0#4, 7#4⟩ = false := by decide
theorem test_imm_ill_formed : Cmd16.wellFormed ⟨1#8, 0#4, 2#4⟩ = false := by decide
theorem test_wait_operand_ill_formed : Source.wellFormed (.wait 256) = false := by decide

/-! ### Decoding: words written out from 30_encoding.md R80 and R83, bit by bit -/

theorem test_decode_nop : decode 0b0000_0000_0000_0000#16 = .legal .nop := by decide
theorem test_decode_init : decode 0b0000_0000_0000_0001#16 = .legal .init := by decide
theorem test_decode_gen : decode 0b0000_0000_0000_0010#16 = .legal .gen := by decide
theorem test_decode_outh : decode 0b0000_0000_0000_0011#16 = .legal .outh := by decide
theorem test_decode_fstart : decode 0b0000_0000_0000_0100#16 = .legal .fstart := by decide
theorem test_decode_fstep : decode 0b0000_0000_0000_0101#16 = .legal .fstep := by decide
theorem test_decode_wait : decode 0b0110_0100_0000_0110#16 = .legal (.wait 100#8) := by decide

/-- 95_test_vectors.md 2.1: reserved OP, RSV on WAIT, IMM8 on GEN and on FSTEP. -/
theorem test_decode_illegal :
    decode 0x000F#16 = .illegal .reservedOp ∧ decode 0x0016#16 = .illegal .rsvNotZero ∧
    decode 0x0102#16 = .illegal .immNotZero ∧ decode 0x0105#16 = .illegal .immNotZero := by decide

theorem test_table_word : decodeTableWord 16 0x0F06 = some (.wait 15#8) ∧ decodeTableWord 16 0x0007 = none := by decide

/-! ### The commands -/

/-- 95_test_vectors.md 2.2, first row: `RAND` stays. -/
theorem test_init :
    (nextOf (exec .init { ext [] with lfsr := ⟨0x78#8, 0xBD#8, 0xE2#8, 0xE0#8⟩, rand := 0x7F#8 })).map
      (fun t => (t.lfsr, t.idx, t.rand)) = some (⟨0x21#8, 0x2C#8, 0x7F#8, 0x7F#8⟩, 0#2, 0x7F#8) := by decide

/-- 2.4: index 3 wraps, `nxt` is `S[0]`. -/
theorem test_gen_wraps :
    (nextOf (exec .gen { ext [] with lfsr := ⟨0x80#8, 0#8, 0#8, 0x01#8⟩, idx := 3#2 })).map
      (fun t => (t.lfsr, t.idx, t.rand)) = some (⟨0x80#8, 0#8, 0#8, 0xA7#8⟩, 0#2, 0x01#8) := by decide

/-- 2.4: index 1. -/
theorem test_gen_middle :
    (nextOf (exec .gen { ext [] with lfsr := ⟨0x55#8, 0xAA#8, 0x55#8, 0xAA#8⟩, idx := 1#2 })).map
      (fun t => (t.lfsr, t.idx, t.rand)) = some (⟨0x55#8, 0xBC#8, 0x55#8, 0xAA#8⟩, 2#2, 0xAA#8) := by decide

/-- 2.8: the event is emitted although the output was high. -/
theorem test_outh :
    (nextOf (exec .outh (ext []))).map (fun t => (t.eyesLines, t.history)) =
      some (0b11#2, [.reset, .eyesWrite true]) := by decide

/-- 2.8: FSTART restarts a running fade from the level it is at. -/
theorem test_fstart_restarts :
    (nextOf (exec .fstart (fade 5#4 5#4 true []))).map (fun t => (t.cnt, t.dim, t.up, t.act)) =
      some (0#4, 5#4, false, true) := by decide

/-- 2.6, n = 101: both writes, high then low. -/
theorem test_fstep_double_write :
    (nextOf (exec .fstep (fade 0#4 0#4 false []))).map (fun t => (t.cnt, t.eyes, t.history)) =
      some (1#4, false, [.reset, .eyesWrite true, .eyesWrite false, .waitReq 2#8]) := by decide

/-- 2.6, n = 201: the low write in phase A and the termination in phase B. -/
theorem test_fstep_terminates :
    (fun t : State => (t.cnt, t.dim, t.up, t.act, t.eyes)) (fadeStep (fade 9#4 9#4 true [])) =
      (0#4, 10#4, true, false, true) := by decide

/-- 2.9: `WAIT 100`. -/
theorem test_wait :
    (nextOf (exec (.wait 0x64#8) (ext []))).map (fun t => (t.waitPend, t.cont, t.wms, t.cmdReady)) =
      some (true, .wait, 0x64#8, false) := by decide

theorem test_nop : (nextOf (exec .nop (ext []))).map (fun t => t.history) = some [.reset] := by decide

/-! ### Steps -/

/-- 2.11: from reset, FSTEP faults with cause 2 and does not retire. -/
theorem test_step_fstep_idle :
    (nextOf (step (ext [offer 0x0005#16]))).map (fun t => (t.fst, t.fcmd, t.history)) =
      some (0b101#3, 0x0005#16, [.reset, .accept 0x0005#16, .fault .fstepIdle 0x0005#16]) := by decide

/-- 2.1, last row: the decoder comes first. -/
theorem test_step_illegal_first :
    (nextOf (step (ext [offer 0x0105#16]))).map (fun t => (t.fst, t.fcmd)) = some (0b011#3, 0x0105#16) := by decide

/-- R141: phase B makes the dim-0 transition. -/
theorem test_step_turns :
    (nextOf (step (fadeWaits 10#4 0#4 false [done]))).map (fun t => (t.cnt, t.dim, t.up, t.act, t.eyes)) =
      some (11#4, 0#4, true, true, false) := by decide

/-- P6: reset during a wait: no `WaitDone`, no `Retire`, and a late `wait_done` does nothing. -/
theorem test_reset_drops_wait :
    (nextOf (Sys2Proof.core.run 3 (fadeWaits 1#4 10#4 false [rst, idle, done]))).map (fun t => (t.waitPend, t.history)) =
      some (false, [.reset, .reset, .reset]) := by decide

/-- 2.10: the control loop's first three commands from reset. -/
theorem test_auto_start :
    (nextOf (Sys2Proof.core.run 3 State.reset)).map (fun t => (t.seq, t.rand)) = some (.settle, 0x21#8) := by decide

/-- The fetch interface: the word is run by the very next step. -/
theorem test_fetch_word :
    (nextOf (step (State.reset.withFetchWord 16 0x0002))).map (fun t => t.rand) = some 0x21#8 := by decide

/-- 70_reset_and_hazards.md R252: the tick is 8 µs. -/
theorem test_tick : tick = 8 / 1000000 := by norm_num [tick]

/-! ### The assembler -/

/-- R89: a label, a hexadecimal operand, a comment. -/
theorem test_parse_line :
    parseLine ['a', ':', ' ', 'W', 'A', 'I', 'T', ' ', '0', 'x', '6', '4', ' ', ';', 'x'] =
      some ⟨some ['a'], some (.wait 100)⟩ := by decide

theorem test_parse_out_of_range : parseLine ['W', 'A', 'I', 'T', ' ', '2', '5', '6'] = none := by decide

/-! ### Witnesses: a state and operands that meet the hypotheses of each statement, by the statement's name -/

theorem witness_DecodeOfEncode : Instr.wellFormed (.wait 255#8) = true := by decide
theorem witness_EncodeOfDecode : decode 0xFF06#16 = .legal (.wait 255#8) := by decide
theorem witness_PseudoCommandsExpand : (0#4 ≤ 10#4 ∧ 10#4 ≤ 10#4) ∧ assemble none .boot = some [1#16, 3#16] := by decide
theorem witness_FstepPhaseADrivesOutput_double :
    (fade 0#4 0#4 false []).act = true ∧ (fade 0#4 0#4 false []).cnt = 0#4 ∧ (fade 0#4 0#4 false []).dim = 0#4 := by decide
theorem witness_FstepPhaseADrivesOutput_single :
    (fade 0#4 1#4 false []).act = true ∧ ¬ ((fade 0#4 1#4 false []).cnt = 0#4 ∧ (fade 0#4 1#4 false []).dim = 0#4) := by
  decide
theorem witness_IdleFstepFaults : (ext []).act = false ∧ (fade 0#4 0#4 false []).act = true := by decide
theorem witness_GeneratorAndFaultWriters :
    ∃ t, exec .outh (ext []) = .next t ∧ Instr.outh ≠ .init ∧ Instr.outh ≠ .gen ∧
      ¬ (Instr.outh = .fstep ∧ (ext []).act = false) := ⟨_, rfl, by decide⟩
theorem witness_StepRunsDecodedCommand_waits :
    Ready (ext [offer 0xFF06#16]) ∧ (ext [offer 0xFF06#16]).offered = some 0xFF06#16 ∧
      decode 0xFF06#16 = .legal (.wait 255#8) ∧ Instr.wellFormed (.wait 255#8) = true := by decide
theorem witness_StepRunsDecodedCommand_retires_ext :
    Ready (ext [offer 0x0002#16]) ∧ (ext [offer 0x0002#16]).offered = some 0x0002#16 ∧
      decode 0x0002#16 = .legal .gen ∧ (ext []).mode = .ext := by decide
theorem witness_StepRunsDecodedCommand_retires_auto :
    Ready (auto .gen) ∧ (auto .gen).offered = some 0x0002#16 ∧ decode 0x0002#16 = .legal .gen ∧
      (auto .gen).mode = .auto := by decide
theorem witness_OfferedWordSource :
    (auto .settle).mode = .auto ∧ (ext [offer 7#16]).mode = .ext ∧ (ext [offer 7#16]).frame.cmdValid = true ∧
      (ext [idle]).frame.cmdValid = false := by decide
theorem witness_NothingOfferedNothingDone :
    (ext [idle]).mode = .ext ∧ Ready (ext [idle]) ∧ (ext [idle]).frame.cmdValid = false := by decide
theorem witness_FaultEntryRecordsOnly_illegal :
    Ready (ext [offer 0xFFFF#16]) ∧ (ext [offer 0xFFFF#16]).offered = some 0xFFFF#16 ∧
      (decode 0xFFFF#16).isLegal = false := by decide
theorem witness_FaultEntryRecordsOnly_idle :
    Ready (ext [offer 0x0005#16]) ∧ (ext [offer 0x0005#16]).offered = some 0x0005#16 ∧
      (ext [offer 0x0005#16]).act = false := by decide
theorem witness_FaultStateIsQuiescent_ended :
    NoReset { ext [] with fault := true } ∧ ({ ext [] with fault := true } : State).inputs = [] := by decide
theorem witness_FaultStateIsQuiescent_goes_on :
    NoReset { ext [offer 0#16] with fault := true } ∧ ({ ext [offer 0#16] with fault := true } : State).inputs ≠ [] := by
  decide
theorem witness_ResetLoadsResetValues :
    (fadeWaits 1#4 5#4 false [rst]).frame.rst = true ∧ (fadeWaits 1#4 5#4 false [rst]).rstHeld = false := by decide
theorem witness_ResetHeldThenTakenAgain :
    ({ ext [rst] with rstHeld := true } : State).frame.rst = true ∧
      ({ ext [idle] with rstHeld := true } : State).frame.rst = false := by decide
theorem witness_PendingWaitHoldsRegisters :
    NoReset (fadeWaits 1#4 10#4 false [idle]) ∧ (fadeWaits 1#4 10#4 false [idle]).fault = false ∧
      (fadeWaits 1#4 10#4 false [idle]).waitPend = true ∧ (fadeWaits 1#4 10#4 false [idle]).frame.waitDone = false := by
  decide
theorem witness_WaitDoneIgnoredWithNoWait : (ext [done]).inputs = done :: [] ∧ (ext [done]).waitPend = false := by decide
theorem witness_CommandPortIgnoredUnlessReady :
    (fadeWaits 1#4 10#4 false [idle]).inputs = idle :: [] ∧ (fadeWaits 1#4 10#4 false [idle]).cmdReady = false := by decide
theorem witness_WaitDoneRetiresWait :
    WaitCompletes { ext [done] with waitPend := true, wms := 255#8 } ∧ (ext [done]).cont = .wait := by decide
theorem witness_FstepPhaseBEndsCycle_within :
    WaitCompletes (fadeWaits 9#4 1#4 false [done]) ∧ (fadeWaits 9#4 1#4 false [done]).cont = .fstep ∧ 9#4 < 10#4 := by decide
theorem witness_FstepPhaseBEndsCycle_terminates :
    WaitCompletes (fadeWaits 10#4 9#4 true [done]) ∧ ¬ (10#4 < 10#4) := by decide
theorem witness_FstepPhaseBEndsCycle_up :
    WaitCompletes (fadeWaits 12#4 0#4 true [done]) ∧ ¬ (12#4 < 10#4) := by decide
theorem witness_FstepPhaseBEndsCycle_turns : WaitCompletes (fadeWaits 10#4 0#4 false [done]) := by decide
theorem witness_FstepPhaseBEndsCycle_down : WaitCompletes (fadeWaits 10#4 1#4 false [done]) := by decide
theorem witness_WaitTakesTwoSteps :
    (ext [offer 0x6406#16, idle, done]).inputs = offer 0x6406#16 :: ([idle] ++ done :: []) ∧
      (ext []).mode = .ext ∧ (ext []).rstHeld = false ∧ (ext []).waitPend = false ∧ (ext []).fault = false ∧
      (offer 0x6406#16).cmd = encode (.wait 100#8) ∧ (offer 0x6406#16).cmdValid = true ∧ (offer 0x6406#16).rst = false ∧
      (∀ f ∈ [idle], f.rst = false ∧ f.waitDone = false) ∧ done.rst = false ∧ done.waitDone = true := by decide
theorem witness_HistoryOnlyGrows : ∃ t, step (ext [offer 2#16]) = .next t := ⟨_, rfl⟩
theorem witness_FaultRecordAndModeWriters :
    (∃ t, step (ext [offer 7#16]) = .next t) ∧ NoReset (ext [offer 7#16]) ∧ (∃ t, step (ext [rst]) = .next t) ∧
      ¬ NoReset (ext [rst]) := ⟨⟨_, rfl⟩, by decide, ⟨_, rfl⟩, by decide⟩
theorem witness_LevelAndPhaseWriters_dim :
    ∃ t, step (fadeWaits 10#4 1#4 false [done]) = .next t ∧ NoReset (fadeWaits 10#4 1#4 false [done]) ∧
      t.dim ≠ 1#4 := ⟨_, rfl, by decide, by decide⟩
theorem witness_LevelAndPhaseWriters_up :
    (∃ t, step (fadeWaits 10#4 0#4 false [done]) = .next t ∧ t.up ≠ false) ∧
      ∃ t, step (fade 0#4 5#4 true [offer 4#16]) = .next t ∧ t.up ≠ true :=
  ⟨⟨_, rfl, by decide⟩, ⟨_, rfl, by decide⟩⟩
theorem witness_AutoOffersSequencerCommand : ∀ q : Seq, (auto q).mode = .auto ∧ Ready (auto q) := by
  intro q
  cases q <;> decide
theorem witness_SequencerMovesAtRetire :
    WaitCompletes { auto .settle with waitPend := true } ∧
      WaitCompletes { auto .fstep with waitPend := true, cont := .fstep } := by decide
theorem witness_SeqChangesOnlyInAuto :
    ∃ t, step (ext [offer 1#16]) = .next t ∧ NoReset (ext [offer 1#16]) ∧ (ext [offer 1#16]).mode = .ext ∧
      ExtSeqInv (ext [offer 1#16]) := ⟨_, rfl, by decide, by decide, by decide⟩
theorem witness_AutoBootRepeatsResetState : ∀ f ∈ [idle, done], f.rst = false := by decide
theorem witness_AutoOuterIteration_quiet :
    AutoInv (auto .gen) ∧ Ready (auto .gen) ∧ (auto .gen).inputs = [] ∧ ¬ (250#8 < (auto .gen).lfsr.get (auto .gen).idx) := by
  decide
theorem witness_AutoOuterIteration_blinks :
    AutoInv { auto .gen with lfsr := ⟨251#8, 0#8, 0#8, 0#8⟩ } ∧ 250#8 < Lfsr.get ⟨251#8, 0#8, 0#8, 0#8⟩ 0#2 := by decide
theorem witness_AutoNeverFaults : AutoInv (auto .fstep) ∧ (auto .fstep).mode = .auto := by decide
theorem witness_step_invariants :
    FadeInv (fadeWaits 12#4 0#4 true [done]) ∧ GeneratorInv (fadeWaits 12#4 0#4 true [done]) ∧
      FaultInv (fadeWaits 12#4 0#4 true [done]) ∧ ∃ t, step (fadeWaits 12#4 0#4 true [done]) = .next t :=
  ⟨by decide, by decide, by decide, ⟨_, rfl⟩⟩
theorem witness_history_invariants :
    EyesInv (ext [offer 2#16]) ∧ ReplayInv (ext [offer 2#16]) ∧ ∃ t, step (ext [offer 2#16]) = .next t :=
  ⟨by decide, by decide, ⟨_, rfl⟩⟩
theorem witness_GenIsBijection : ∃ t, exec .gen (ext []) = .next t := ⟨_, rfl⟩
theorem witness_OutputWindow :
    (ext []).lfsr = ⟨0x21#8, 0x2C#8, 0x7F#8, 0x7F#8⟩ ∧ (ext []).idx = 0#2 ∧ (3 : Nat) < 4 := by decide
theorem witness_FadeLengthFromAnyLevel :
    (fade 7#4 0#4 true []).dim ≤ 10#4 ∧ (fade 7#4 10#4 false []).dim ≤ 10#4 ∧
      (∃ t, exec .fstart (fade 7#4 0#4 true []) = .next t) ∧ ∃ t, exec .fstart (fade 7#4 10#4 false []) = .next t :=
  ⟨by decide, by decide, ⟨_, rfl⟩, ⟨_, rfl⟩⟩
theorem witness_FullFadeCounts :
    ∃ t u, (ext []).dim = 10#4 ∧ exec .fstart (ext []) = .next t ∧ u = fadeRun t 201 := ⟨_, _, by decide, rfl, rfl⟩
theorem witness_CycleDuty_cycle :
    (fade 0#4 0#4 false []).act = true ∧ (fade 0#4 0#4 false []).cnt = 0#4 ∧ (fade 0#4 0#4 false []).dim ≤ 10#4 ∧
      (fade 0#4 10#4 false []).dim ≤ 10#4 := by decide
theorem witness_CycleDuty_extended :
    (fade 11#4 0#4 true []).act = true ∧ (fade 11#4 0#4 true []).cnt = 11#4 ∧ (fade 11#4 0#4 true []).eyes = false := by
  decide
theorem witness_ObservationPortReadsRegisters : (ext [idle]).inputs = idle :: [] := by decide
theorem witness_OutputPortsShowState : (ext []).outputs 15#4 = (ext []).outputs 15#4 := rfl

end Sys2Proof.Tests
end

section
/-! What every step does to the registers of spec/10_state.md: the step's cases as the invariants need them, and what
each of them leaves unchanged. -/

namespace Sys2Proof

/-! ### Words -/

/-- The fields that a command was decoded from are the command's own (30_encoding.md R85, R86). -/
theorem Cmd16.fields_of_decode {c : Cmd16} {i : Instr} (h : c.decode = .legal i) : i.fields = c := by
  obtain ⟨imm8, rsv, op⟩ := c
  unfold Cmd16.decode at h
  split_ifs at h <;> cases h <;> simp_all [Instr.fields, Instr.imm8, Instr.opcode]

/-- A legal word is the word of the command it decodes to. -/
theorem encode_of_decode {w : CmdWord} {i : Instr} (h : decode w = .legal i) : encode i = w := by
  rw [encode, Cmd16.fields_of_decode h, Cmd16.toWord_ofWord]

end Sys2Proof

namespace Sys2Proof.Machine

open Sys2Proof Sys2Proof.Safety

/-! ### The offered word (10_state.md R40) -/

theorem offered_auto {s : State} (h : s.mode = .auto) : s.offered = some (encode (seqCommand s.seq)) := by
  simp [State.offered, h]

theorem offered_ext {s : State} (h : s.mode = .ext) :
    s.offered = if s.frame.cmdValid then some s.frame.cmd else none := by
  simp [State.offered, h]

/-- The offered word is read from `MODE`, `SEQ` and the command port only. -/
theorem offered_congr {s t : State} (hmode : t.mode = s.mode) (hseq : t.seq = s.seq)
    (hvalid : t.frame.cmdValid = s.frame.cmdValid) (hcmd : t.frame.cmd = s.frame.cmd) : t.offered = s.offered := by
  simp [State.offered, hmode, hseq, hvalid, hcmd]

/-- While levels are scheduled, the first of them are the coming step's. -/
theorem frame_of_inputs {s : State} {f : Frame} {rest : List Frame} (h : s.inputs = f :: rest) : s.frame = f := by
  simp [State.frame, h]

/-! ### The end of an accept step (10_state.md R41 step 4) -/

/-- The end of an accept step writes the history and `SEQ` at most. -/
theorem finishAccept_frame (w : CmdWord) (s : State) :
    finishAccept w s = { s with history := (finishAccept w s).history, seq := (finishAccept w s).seq } := by
  unfold finishAccept
  split
  · rfl
  · rw [retire_eq]

theorem finishAccept_sameFade (w : CmdWord) (s : State) : SameFade s (finishAccept w s) := by
  rw [finishAccept_frame]
  exact ⟨rfl, rfl, rfl, rfl⟩

theorem finishAccept_sameWait (w : CmdWord) (s : State) : SameWait s (finishAccept w s) := by
  rw [finishAccept_frame]
  exact ⟨rfl, rfl, rfl⟩

theorem finishAccept_sameFault (w : CmdWord) (s : State) : SameFault s (finishAccept w s) := by
  rw [finishAccept_frame]
  exact ⟨rfl, rfl, rfl⟩

@[simp] theorem finishAccept_mode (w : CmdWord) (s : State) : (finishAccept w s).mode = s.mode := by
  rw [finishAccept_frame]

theorem finishAccept_seq_ext {w : CmdWord} {s : State} (h : s.mode = .ext) : (finishAccept w s).seq = s.seq := by
  unfold finishAccept
  split
  · rfl
  · simp [retire_seq, h]

/-! ### The wait-done step (10_state.md R42) -/

@[simp] theorem waitDoneStep_waitPend (s : State) : (waitDoneStep s).waitPend = false := by
  cases h : s.cont
  · simp [waitDoneStep_wait h]
  · simp [waitDoneStep_fstep h]

@[simp] theorem waitDoneStep_mode (s : State) : (waitDoneStep s).mode = s.mode := by
  cases h : s.cont
  · simp [waitDoneStep_wait h]
  · simp [waitDoneStep_fstep h]

theorem waitDoneStep_sameFault (s : State) : SameFault s (waitDoneStep s) := by
  cases h : s.cont
  · simp [SameFault, waitDoneStep_wait h]
  · simp [SameFault, waitDoneStep_fstep h]

theorem waitDoneStep_seq_ext {s : State} (hm : s.mode = .ext) : (waitDoneStep s).seq = s.seq := by
  cases h : s.cont
  · simp [waitDoneStep_wait h, retire_seq, hm]
  · simp [waitDoneStep_fstep h, retire_seq, hm]

/-! ### The commands -/

/-- No command writes `SEQ` or `MODE` (10_state.md R34, R36). -/
theorem exec_sameControl {i : Instr} {s t : State} (h : exec i s = .next t) : SameControl s t := by
  cases i with
  | nop | init | gen | outh | fstart | wait ms => cases h; exact ⟨rfl, rfl⟩
  | fstep =>
    cases ha : s.act
    · rw [exec_fstep_idle ha] at h; cases h; exact ⟨rfl, rfl⟩
    · rw [exec_fstep_active ha, fstepPhaseA_eq] at h; cases h; exact ⟨rfl, rfl⟩

/-- A command leaves the fault record as it was, unless it is an FSTEP with `ACT = 0` (60_exceptions.md R202). -/
theorem exec_fault_cases {i : Instr} {s t : State} (h : exec i s = .next t) :
    SameFault s t ∨ (i = .fstep ∧ s.act = false ∧ t = s.raiseFault .fstepIdle 0x0005#16) := by
  cases i with
  | nop | init | gen | outh | fstart | wait ms => cases h; exact .inl ⟨rfl, rfl, rfl⟩
  | fstep =>
    cases ha : s.act
    · rw [exec_fstep_idle ha] at h; cases h; exact .inr ⟨rfl, rfl, rfl⟩
    · rw [exec_fstep_active ha, fstepPhaseA_eq] at h; cases h; exact .inl ⟨rfl, rfl, rfl⟩

/-! ### The step -/

/-- What a step that answers a next state has done: nothing (only the port levels are used up), a reset step, a wait-done
step, or the accept step of an illegal or of a legal word. -/
theorem step_outcomes {s t : State} (h : step s = .next t) :
    t = s.consume ∨
    (¬ NoReset s ∧ ∃ held, t = State.resetStep s.frame.mode { s.consume with rstHeld := held }) ∨
    (WaitCompletes s ∧ t = waitDoneStep s.consume) ∨
    (Ready s ∧ ∃ w, s.offered = some w ∧ (decode w).isLegal = false ∧
      t = (s.consume.emit (.accept w)).raiseFault .illegalCmd w) ∨
    (Ready s ∧ ∃ w i u, s.offered = some w ∧ decode w = .legal i ∧ exec i (s.consume.emit (.accept w)) = .next u ∧
      t = finishAccept w u) := by
  rcases step_cases h with ⟨_, _, ht⟩ | ⟨hr, _, ht⟩ | ⟨_, hh, ht⟩ | ⟨hr, hh, hcase⟩
  · exact .inl ht
  · exact .inr (.inl ⟨by simp [NoReset, hr], true, ht⟩)
  · exact .inr (.inl ⟨by simp [NoReset, hh], false, ht⟩)
  · rcases hcase with ⟨_, _, ht⟩ | ⟨_, _, _, ht⟩ | ⟨hf, hp, hd, ht⟩ | ⟨_, _, _, ht⟩ | ⟨hf, hp, w, hw, ha⟩
    · exact .inl ht
    · exact .inl ht
    · exact .inr (.inr (.inl ⟨⟨⟨hr, hh⟩, hf, hp, hd⟩, ht⟩))
    · exact .inl ht
    · have hready : Ready s := ⟨⟨hr, hh⟩, hp, hf⟩
      rcases acceptStep_cases ha with ⟨hl, ht⟩ | ⟨i, u, hi, hu, ht⟩
      · exact .inr (.inr (.inr (.inl ⟨hready, w, hw, hl, ht⟩)))
      · exact .inr (.inr (.inr (.inr ⟨hready, w, i, u, hw, hi, hu, ht⟩)))

/-- The step reads of its port levels `rst` and the strap, `wait_done` while a wait is pending, and the offered word
while a command can be accepted, and no other level (10_state.md R40 to R44). -/
theorem step_congr_ports {s : State} {f g : Frame} {rest : List Frame} (hs : s.inputs = f :: rest)
    (hrst : g.rst = f.rst) (hstrap : g.mode = f.mode) (hdone : s.waitPend = true → g.waitDone = f.waitDone)
    (hoffer : s.canAccept = true → ({ s with inputs := g :: rest } : State).offered = s.offered) :
    step { s with inputs := g :: rest } = step s := by
  have hframe : ({ s with inputs := g :: rest } : State).frame = g := rfl
  have hconsume : ({ s with inputs := g :: rest } : State).consume = s.consume := by simp [State.consume, hs]
  unfold step cycle
  simp only [frame_of_inputs hs, hframe, hconsume, hrst, hstrap]
  by_cases hf : s.fault = true
  · simp [hf, hs]
  · by_cases hp : s.waitPend = true
    · simp [hf, hp, hdone hp]
    · rw [hoffer (by simp [State.canAccept, hf, hp])]
      simp [hf, hp]

/-! ### The observation port (10_state.md R38) -/

/-- A packed register with a one-bit field at bit 0 and another field above it (R21). -/
theorem toNat_append_ofBool {n : Nat} (x : BitVec n) (b : Bool) :
    (x ++ BitVec.ofBool b).toNat = b.toNat + 2 * x.toNat := by
  rw [BitVec.toNat_append, BitVec.toNat_ofBool, Nat.shiftLeft_eq, Nat.mul_comm,
    ← Nat.two_pow_add_eq_or_of_lt (i := 1) (by cases b <;> decide)]
  omega

theorem fctl_toNat (s : State) : s.fctl.toNat = s.up.toNat + 2 * s.act.toNat := by
  rw [State.fctl, toNat_append_ofBool, BitVec.toNat_ofBool]

theorem wst_toNat (s : State) : s.wst.toNat = s.waitPend.toNat + 2 * s.cont.code.toNat :=
  toNat_append_ofBool s.cont.code s.waitPend

theorem fst_toNat (s : State) : s.fst.toNat = s.fault.toNat + 2 * s.cause.code.toNat :=
  toNat_append_ofBool s.cause.code s.fault

end Sys2Proof.Machine

namespace Sys2Proof.Safety

open Sys2Proof Sys2Proof.Machine

/-! ### The fade state's invariants (41_blink_controller.md R147, 10_state.md R28, R29, R31) -/

/-- The invariants at a command boundary. -/
theorem fadeInv_iff_of_boundary {s : State} (h : ¬ FstepWaits s) :
    FadeInv s ↔ s.dim ≤ 10#4 ∧ (s.act = true → ¬ (s.up = true ∧ s.dim = 10#4)) ∧
      (s.cnt ≤ 9#4 ∨ (s.cnt = 11#4 ∧ s.dim = 0#4 ∧ s.up = true ∧ s.act = true)) := by
  simp only [FadeInv, h, not_false_eq_true, true_imp_iff, false_imp_iff, and_true]

/-- The invariants while an FSTEP waits. -/
theorem fadeInv_iff_of_fstepWaits {s : State} (h : FstepWaits s) :
    FadeInv s ↔ s.dim ≤ 10#4 ∧ (s.act = true → ¬ (s.up = true ∧ s.dim = 10#4)) ∧
      s.act = true ∧ ((1#4 ≤ s.cnt ∧ s.cnt ≤ 10#4) ∨ (s.cnt = 12#4 ∧ s.dim = 0#4 ∧ s.up = true)) := by
  simp only [FadeInv, iff_true_intro h, not_true_eq_false, true_imp_iff, false_imp_iff, true_and]

/-- No FSTEP waits where no wait is pending. -/
theorem not_fstepWaits {s : State} (h : s.waitPend = false) : ¬ FstepWaits s := by
  simp [FstepWaits, h]

/-- The invariants read the fade state and the wait handshake only. -/
theorem fadeInv_congr {s t : State} (hfade : SameFade s t) (hwait : SameWait s t) (h : FadeInv s) : FadeInv t := by
  obtain ⟨hcnt, hdim, hup, hact⟩ := hfade
  obtain ⟨hpend, hcont, _⟩ := hwait
  unfold FadeInv FstepWaits
  rw [hcnt, hdim, hup, hact, hpend, hcont]
  exact h

theorem fadeInv_retire {s : State} (w : CmdWord) (h : FadeInv s) : FadeInv (s.retire w) :=
  fadeInv_congr ⟨retire_cnt w s, retire_dim w s, retire_up w s, retire_act w s⟩
    ⟨retire_waitPend w s, retire_cont w s, retire_wms w s⟩ h

theorem fadeInv_finishAccept {s : State} (w : CmdWord) (h : FadeInv s) : FadeInv (finishAccept w s) :=
  fadeInv_congr (finishAccept_sameFade w s) (finishAccept_sameWait w s) h

/-- Phase A of FSTEP leads from a command boundary into the FSTEP's wait (R136). -/
theorem fadeInv_fstepPhaseA {s : State} (hp : s.waitPend = false) (ha : s.act = true) (h : FadeInv s) :
    FadeInv (fstepPhaseA s) := by
  obtain ⟨hdim, hup, hcnt⟩ := (fadeInv_iff_of_boundary (not_fstepWaits hp)).mp h
  rw [fstepPhaseA_eq, fadeInv_iff_of_fstepWaits ⟨rfl, rfl⟩]
  refine ⟨hdim, hup, ha, ?_⟩
  rcases hcnt with hc | ⟨hc, hd, hu, _⟩
  · exact .inl ⟨by simp only; bv_omega, by simp only; bv_omega⟩
  · exact .inr ⟨by simp only [hc]; rfl, hd, hu⟩

/-- Phase B of FSTEP leads from the FSTEP's wait, which has just ended, to a command boundary, whatever the counter
held (R137). -/
theorem fadeInv_fstepPhaseB {s : State} (hp : s.waitPend = false) (hdim : s.dim ≤ 10#4)
    (hup : ¬ (s.up = true ∧ s.dim = 10#4)) (ha : s.act = true) : FadeInv (fstepPhaseB s) := by
  have hlen : cycleLen = 10#4 := rfl
  have hmax : dimMax = 10#4 := rfl
  rw [fadeInv_iff_of_boundary (not_fstepWaits (by simp [hp]))]
  rcases fstepPhaseB_cases s with
    ⟨hc, h⟩ | ⟨_, _, hd, h⟩ | ⟨_, hu, hd, h⟩ | ⟨_, _, hd, h⟩ | ⟨_, hu, hd, h⟩ <;> rw [h]
  · exact ⟨hdim, fun _ => hup, .inl (by bv_omega)⟩
  · exact ⟨by simp [hd, hmax], by simp, .inl (by simp)⟩
  · have hne : s.dim ≠ 10#4 := fun e => hup ⟨hu, e⟩
    exact ⟨by simp only; bv_omega, fun _ e => hd (e.2.trans hmax.symm), .inl (by simp)⟩
  · exact ⟨hdim, by simp [hd], .inr ⟨rfl, hd, rfl, ha⟩⟩
  · exact ⟨by simp only; bv_omega, by simp [hu], .inl (by simp)⟩

/-- The reset step meets the invariants. -/
theorem fadeInv_resetStep (m : Mode) (s : State) : FadeInv (s.resetStep m) :=
  (fadeInv_iff_of_boundary (not_fstepWaits rfl)).mpr ⟨by simp [dimMax], by simp, .inl (by simp)⟩

/-- A command accepted at a command boundary keeps the invariants. -/
theorem exec_keeps_fadeInv {i : Instr} {s t : State} (hp : s.waitPend = false) (h : FadeInv s)
    (he : exec i s = .next t) : FadeInv t := by
  obtain ⟨hdim, hup, hcnt⟩ := (fadeInv_iff_of_boundary (not_fstepWaits hp)).mp h
  cases i with
  | nop | init | gen | outh => cases he; exact h
  | fstart =>
    rw [exec_fstart] at he
    cases he
    refine (fadeInv_iff_of_boundary ?_).mpr ⟨hdim, by simp, .inl (by simp)⟩
    exact not_fstepWaits hp
  | fstep =>
    cases ha : s.act
    · rw [exec_fstep_idle ha] at he
      cases he
      exact h
    · rw [exec_fstep_active ha] at he
      cases he
      exact fadeInv_fstepPhaseA hp ha h
  | wait ms =>
    rw [exec_wait] at he
    cases he
    exact (fadeInv_iff_of_boundary (fun e => by cases e.2)).mpr ⟨hdim, hup, hcnt⟩

/-- A wait-done step keeps the invariants. -/
theorem waitDoneStep_keeps_fadeInv {s : State} (hp : s.waitPend = true) (h : FadeInv s) :
    FadeInv (waitDoneStep s) := by
  cases hc : s.cont
  · obtain ⟨hdim, hup, hcnt⟩ := (fadeInv_iff_of_boundary (by simp [FstepWaits, hc])).mp h
    rw [waitDoneStep_wait hc]
    exact fadeInv_retire _ ((fadeInv_iff_of_boundary (not_fstepWaits rfl)).mpr ⟨hdim, hup, hcnt⟩)
  · obtain ⟨hdim, hup, ha, _⟩ := (fadeInv_iff_of_fstepWaits ⟨hp, hc⟩).mp h
    rw [waitDoneStep_fstep hc]
    exact fadeInv_retire _
      (fadeInv_fstepPhaseB (s := { s with waitPend := false, history := s.history ++ [.waitDone] })
        rfl hdim (hup ha) ha)

end Sys2Proof.Safety
end

section
/-! PROOFS. The statements about the registers of spec/10_state.md. -/

namespace Sys2Proof.Proofs

open Sys2Proof Sys2Proof.Machine Sys2Proof.Safety

/-- Settles O39: each kind of step keeps the invariants, by the lemma about it. -/
theorem stepKeepsFadeInv : Obligations.StepKeepsFadeInv := by
  intro s t hs hstep
  rcases step_outcomes hstep with
    rfl | ⟨_, held, rfl⟩ | ⟨⟨_, _, hp, _⟩, rfl⟩ | ⟨_, w, _, _, rfl⟩ | ⟨⟨_, hp, _⟩, w, i, u, _, _, hu, rfl⟩
  case inl => exact hs
  case inr.inl => exact fadeInv_resetStep _ _
  case inr.inr.inl => exact waitDoneStep_keeps_fadeInv (s := s.consume) hp hs
  case inr.inr.inr.inl => exact hs
  case inr.inr.inr.inr =>
    exact fadeInv_finishAccept w (exec_keeps_fadeInv (s := s.consume.emit (.accept w)) hp hs hu)

/-- `MODE` is written only by a reset step (R36). -/
theorem step_mode_of_noReset {s t : State} (hstep : step s = .next t) (hr : NoReset s) : t.mode = s.mode := by
  rcases step_outcomes hstep with
    rfl | ⟨hn, _⟩ | ⟨_, rfl⟩ | ⟨_, w, _, _, rfl⟩ | ⟨_, w, i, u, _, _, hu, rfl⟩
  case inl => rfl
  case inr.inl => exact absurd hr hn
  case inr.inr.inl => simp
  case inr.inr.inr.inl => rfl
  case inr.inr.inr.inr => simpa using (exec_sameControl hu).2

/-- Without a reset the fault record is written only at fault entry (R36, 60_exceptions.md R203). -/
theorem step_fault_of_noReset {s t : State} (hstep : step s = .next t) (hr : NoReset s) :
    SameFault s t ∨
      (s.fault = false ∧ t.fault = true ∧
        ∃ w c, t.cause = c ∧ t.fcmd = w ∧ t.history = s.history ++ [.accept w, .fault c w]) := by
  rcases step_outcomes hstep with
    rfl | ⟨hn, _⟩ | ⟨_, rfl⟩ | ⟨⟨_, _, hf⟩, w, _, _, rfl⟩ | ⟨⟨_, _, hf⟩, w, i, u, _, hi, hu, rfl⟩
  case inl => exact .inl ⟨rfl, rfl, rfl⟩
  case inr.inl => exact absurd hr hn
  case inr.inr.inl => exact .inl (waitDoneStep_sameFault s.consume)
  case inr.inr.inr.inl => exact .inr ⟨hf, rfl, w, .illegalCmd, rfl, rfl, by simp⟩
  case inr.inr.inr.inr =>
    rcases exec_fault_cases hu with hsame | ⟨rfl, _, rfl⟩
    · obtain ⟨hfault, hcause, hfcmd⟩ := finishAccept_sameFault w u
      obtain ⟨hfault', hcause', hfcmd'⟩ := hsame
      exact .inl ⟨hfault.trans hfault', hcause.trans hcause', hfcmd.trans hfcmd'⟩
    · obtain rfl : encode .fstep = w := encode_of_decode hi
      rw [finishAccept_stay (.inr rfl)]
      exact .inr ⟨hf, rfl, _, .fstepIdle, rfl, rfl, by simp; rfl⟩

/-- A step with a reset due or in progress does nothing or is the reset step. -/
theorem step_of_reset {s t : State} (hstep : step s = .next t) (hr : ¬ NoReset s) :
    t = s.consume ∨ ∃ held, t = State.resetStep s.frame.mode { s.consume with rstHeld := held } := by
  rcases step_outcomes hstep with ht | ⟨_, ht⟩ | ⟨⟨hn, _⟩, _⟩ | ⟨⟨hn, _⟩, _⟩ | ⟨⟨hn, _⟩, _⟩
  · exact .inl ht
  · exact .inr ht
  all_goals exact absurd hn hr

/-- Settles O31: without a reset by the two lemmas above, with one by what a reset step writes. -/
theorem faultRecordAndModeWriters : Obligations.FaultRecordAndModeWriters := by
  intro s t hstep
  refine ⟨fun hr => ⟨step_mode_of_noReset hstep hr, step_fault_of_noReset hstep hr⟩, fun hr => ?_⟩
  rcases step_of_reset hstep hr with rfl | ⟨held, rfl⟩
  · exact .inl ⟨rfl, ⟨rfl, rfl, rfl⟩, rfl⟩
  · exact .inr ⟨rfl, rfl, rfl, rfl, rfl⟩

/-- In EXT mode `SEQ` is written only by a reset step (R34). -/
theorem step_seq_of_ext {s t : State} (hstep : step s = .next t) (hr : NoReset s) (hm : s.mode = .ext) :
    t.seq = s.seq := by
  rcases step_outcomes hstep with
    rfl | ⟨hn, _⟩ | ⟨_, rfl⟩ | ⟨_, w, _, _, rfl⟩ | ⟨_, w, i, u, _, _, hu, rfl⟩
  case inl => rfl
  case inr.inl => exact absurd hr hn
  case inr.inr.inl => exact waitDoneStep_seq_ext (s := s.consume) hm
  case inr.inr.inr.inl => rfl
  case inr.inr.inr.inr =>
    obtain ⟨hseq, hmode⟩ := exec_sameControl hu
    rw [finishAccept_seq_ext (hmode.trans hm), hseq]
    rfl

/-- Settles O35. The last part needs that a step without a reset keeps `MODE`, and that the reset step writes `boot0`. -/
theorem seqChangesOnlyInAuto : Obligations.SeqChangesOnlyInAuto := by
  refine ⟨⟨rfl, rfl, rfl, rfl, rfl, rfl, fun q => by cases q <;> decide⟩, fun s t => step_seq_of_ext, ?_⟩
  intro s t hs hstep hm
  by_cases hr : NoReset s
  · have hm' : s.mode = .ext := (step_mode_of_noReset hstep hr).symm.trans hm
    exact (step_seq_of_ext hstep hr hm').trans (hs hm')
  · rcases step_of_reset hstep hr with rfl | ⟨held, rfl⟩
    · exact hs hm
    · rfl

/-- Settles O18, by mode. -/
theorem offeredWordSource : Obligations.OfferedWordSource := by
  intro s
  refine ⟨fun hm => ?_, fun hm hv => ?_, fun hm hv => ?_⟩
  · rw [offered_auto hm]
    cases s.seq <;> rfl
  · rw [offered_ext hm, if_pos hv]
  · rw [offered_ext hm, hv]
    rfl

/-- Settles O53. The step does not read `dbg_addr`, as `step_congr_ports` says. -/
theorem observationPortReadsRegisters : Obligations.ObservationPortReadsRegisters := by
  refine ⟨fun s => ?_, fun s f rest a hs => ?_⟩
  · have zext {n : Nat} (x : BitVec n) (hn : n ≤ 16 := by decide) : (x.zeroExtend 16).toNat = x.toNat :=
      BitVec.toNat_setWidth_of_le hn
    exact ⟨zext _, zext _, zext _, zext _, zext _, zext _, zext _, zext _, (zext _).trans (fctl_toNat s),
      (zext _).trans (BitVec.toNat_ofBool _), (zext _).trans (wst_toNat s), zext _, (zext _).trans (fst_toNat s), rfl,
      zext _, zext _⟩
  · have hoffer : ({ s with inputs := { f with dbgAddr := a } :: rest } : State).offered = s.offered :=
      offered_congr rfl rfl (by rw [frame_of_inputs hs]; rfl) (by rw [frame_of_inputs hs]; rfl)
    exact step_congr_ports hs rfl rfl (fun _ => rfl) (fun _ => hoffer)

end Sys2Proof.Proofs
end

section
/-! The decoder read backwards (spec/30_encoding.md R80, R83, R86): a word decodes to a command exactly when it is the
word of that command, and what these words are as numbers. -/

namespace Sys2Proof

/-! ### Fields and words (R80) -/

/-- The word as a number, from its fields. -/
theorem Cmd16.toWord_toNat (c : Cmd16) : c.toWord.toNat = 256 * c.imm8.toNat + 16 * c.rsv.toNat + c.op.toNat := by
  have hhigh : (c.imm8 ++ c.rsv).toNat = 16 * c.imm8.toNat + c.rsv.toNat := by
    rw [BitVec.toNat_append, ← Nat.shiftLeft_add_eq_or_of_lt c.rsv.isLt, Nat.shiftLeft_eq]
    omega
  rw [toWord, BitVec.toNat_append, ← Nat.shiftLeft_add_eq_or_of_lt c.op.isLt, Nat.shiftLeft_eq, hhigh]
  omega

/-- The fields of the word of some fields are these fields. -/
@[simp] theorem Cmd16.ofWord_toWord (c : Cmd16) : Cmd16.ofWord c.toWord = c := by
  have himm := c.imm8.isLt
  have hrsv := c.rsv.isLt
  have hop := c.op.isLt
  have h := c.toWord_toNat
  obtain ⟨imm8, rsv, op⟩ := c
  simp only [ofWord, Cmd16.mk.injEq, ← BitVec.toNat_inj, BitVec.extractLsb'_toNat, Nat.shiftRight_eq_div_pow, h]
  omega

/-! ### The decoder and the encoder (R83, R86) -/

/-- The fields of a command decode to the command. -/
theorem Instr.decode_fields (i : Instr) : i.fields.decode = .legal i := by
  cases i <;> rfl

/-- The word of a command decodes to the command. -/
@[simp] theorem decode_encode (i : Instr) : decode (encode i) = .legal i := by
  rw [decode, encode, Cmd16.ofWord_toWord, Instr.decode_fields]

/-- The word of a command is the only one that decodes to it. -/
theorem decode_eq_legal_iff {w : CmdWord} {i : Instr} : decode w = .legal i ↔ w = encode i :=
  ⟨fun h => (encode_of_decode h).symm, fun h => h ▸ decode_encode i⟩

theorem Decoded.isLegal_iff {d : Decoded} : d.isLegal = true ↔ ∃ i, d = .legal i := by
  cases d <;> simp [isLegal]

/-! ### The legal words as numbers (R83, R86) -/

/-- The words of the six commands without an operand. -/
theorem encode_fixed_words :
    encode .nop = 0x0000#16 ∧ encode .init = 0x0001#16 ∧ encode .gen = 0x0002#16 ∧
    encode .outh = 0x0003#16 ∧ encode .fstart = 0x0004#16 ∧ encode .fstep = 0x0005#16 := by
  decide

/-- A word is that of WAIT when its low byte is `6`, and then its high byte is the operand. -/
theorem eq_encode_wait_iff {w : CmdWord} {ms : Byte} :
    w = encode (.wait ms) ↔ w.toNat % 256 = 6 ∧ ms = BitVec.ofNat 8 (w.toNat / 256) := by
  have hword : (encode (.wait ms)).toNat = 256 * ms.toNat + 6 := Cmd16.toWord_toNat _
  have hw := w.isLt
  have hms := ms.isLt
  rw [← BitVec.toNat_inj, ← BitVec.toNat_inj, hword, BitVec.toNat_ofNat]
  omega

/-- R86, by the command: six fixed words, and for WAIT the words with low byte `6`. -/
theorem decode_eq_legal_iff_word (w : CmdWord) (i : Instr) : decode w = .legal i ↔
    (w = 0x0000#16 ∧ i = .nop) ∨ (w = 0x0001#16 ∧ i = .init) ∨ (w = 0x0002#16 ∧ i = .gen) ∨
    (w = 0x0003#16 ∧ i = .outh) ∨ (w = 0x0004#16 ∧ i = .fstart) ∨ (w = 0x0005#16 ∧ i = .fstep) ∨
    (w.toNat % 256 = 6 ∧ i = .wait (BitVec.ofNat 8 (w.toNat / 256))) := by
  rw [decode_eq_legal_iff]
  cases i with
  | wait ms => simp [eq_encode_wait_iff]
  | nop | init | gen | outh | fstart | fstep => simp [encode_fixed_words]

/-- A word is legal when its number is below `6` (a fixed word) or its low byte is `6` (WAIT). -/
theorem isLegal_iff_toNat (w : CmdWord) : (decode w).isLegal = true ↔ w.toNat < 6 ∨ w.toNat % 256 = 6 := by
  simp only [Decoded.isLegal_iff, decode_eq_legal_iff_word, exists_or, exists_eq_right,
    ← BitVec.toNat_inj, BitVec.toNat_ofNat]
  omega

/-- The legal words as a set: the six fixed words, and the word of WAIT for each of the 256 operands. -/
theorem filter_isLegal_eq : (Finset.range 65536).filter (fun n => (decode (BitVec.ofNat 16 n)).isLegal = true) =
    Finset.range 6 ∪ (Finset.range 256).image (fun ms => 256 * ms + 6) := by
  ext n
  simp only [Finset.mem_filter, Finset.mem_union, Finset.mem_image, Finset.mem_range, isLegal_iff_toNat,
    BitVec.toNat_ofNat]
  constructor
  · rintro ⟨hn, hlow⟩
    rw [Nat.mod_eq_of_lt hn] at hlow
    exact hlow.imp_right fun h6 => ⟨n / 256, by omega, by omega⟩
  · rintro (hn | ⟨ms, hms, rfl⟩) <;> omega

/-- R86: 6 + 256 words are legal. -/
theorem card_legal_words :
    ((Finset.range 65536).filter (fun n => (decode (BitVec.ofNat 16 n)).isLegal = true)).card = 262 := by
  have hdisj : Disjoint (Finset.range 6) ((Finset.range 256).image (fun ms => 256 * ms + 6)) := by
    simp only [Finset.disjoint_left, Finset.mem_range, Finset.mem_image]
    omega
  have hinj : Function.Injective (fun ms => 256 * ms + 6) := fun a b h => by
    simp only at h
    omega
  rw [filter_isLegal_eq, Finset.card_union_of_disjoint hdisj, Finset.card_image_of_injective _ hinj,
    Finset.card_range, Finset.card_range]

end Sys2Proof
end

section
/-! PROOFS. The statements about the encoding (spec/30_encoding.md). -/

namespace Sys2Proof.Proofs

open Sys2Proof

/-- Settles O3: each command has one word, and the words are counted by kind. -/
theorem legalWordsExactly : Obligations.LegalWordsExactly :=
  ⟨decode_eq_legal_iff_word, card_legal_words⟩

end Sys2Proof.Proofs
end

section
/-! The Random Generator (spec/40_random_generator.md): the byte GEN writes in the forms of R106 and R107, what one GEN
and a run of GENs leave in `S` and `IDX`, and the bytes they return. -/

namespace Sys2Proof.Machine

open Sys2Proof Sys2Proof.Safety

/-! ### The byte GEN writes (R106, R107) -/

/-- A term of R103 step 2 is a window of eight bits of `{cur, nxt}`. -/
theorem shiftLeft_or_ushiftRight_eq_append (cur nxt : Byte) {a b : Nat} (hab : a + b = 8) :
    (cur <<< b) ||| (nxt >>> a) = (cur.extractLsb' 0 a ++ nxt.extractLsb' a b).cast hab := by
  ext i hi
  by_cases hib : i < b
  · simp [BitVec.getElem_append, hib, BitVec.getElem_extractLsb']
  · have hlow : i - b < a := by omega
    simp [BitVec.getElem_append, hib, BitVec.getLsbD_of_ge nxt (a + i) (by omega),
      BitVec.getLsbD_eq_getElem (show i - b < 8 by omega)]

/-- The two parts of such a window have no bit in common. -/
theorem shiftLeft_or_ushiftRight_eq_xor (cur nxt : Byte) {a b : Nat} (hab : a + b = 8) :
    (cur <<< b) ||| (nxt >>> a) = (cur <<< b) ^^^ (nxt >>> a) := by
  ext i hi
  by_cases hib : i < b
  · simp [hib]
  · simp [hib, BitVec.getLsbD_of_ge nxt (a + i) (by omega)]

/-- R106: the byte GEN writes, by concatenation. -/
theorem feedback_eq_windows (cur nxt : Byte) :
    feedback cur nxt = cur ^^^ (cur.extractLsb' 0 6 ++ nxt.extractLsb' 6 2 : BitVec 8)
      ^^^ (cur.extractLsb' 0 2 ++ nxt.extractLsb' 2 6 : BitVec 8)
      ^^^ (cur.extractLsb' 0 1 ++ nxt.extractLsb' 1 7 : BitVec 8) := by
  have hb := shiftLeft_or_ushiftRight_eq_append cur nxt (show 6 + 2 = 8 from rfl)
  have hc := shiftLeft_or_ushiftRight_eq_append cur nxt (show 2 + 6 = 8 from rfl)
  have hd := shiftLeft_or_ushiftRight_eq_append cur nxt (show 1 + 7 = 8 from rfl)
  rw [feedback, hb, hc, hd]
  rfl

/-- R107: the byte GEN writes, split into what each of the two bytes read contributes. -/
theorem feedback_eq_feedL_xor_feedM (cur nxt : Byte) : feedback cur nxt = feedL cur ^^^ feedM nxt := by
  have hb := shiftLeft_or_ushiftRight_eq_xor cur nxt (show 6 + 2 = 8 from rfl)
  have hc := shiftLeft_or_ushiftRight_eq_xor cur nxt (show 2 + 6 = 8 from rfl)
  have hd := shiftLeft_or_ushiftRight_eq_xor cur nxt (show 1 + 7 = 8 from rfl)
  rw [feedback, hb, hc, hd, feedL, feedM]
  ac_rfl

end Sys2Proof.Machine

namespace Sys2Proof.Safety

open Sys2Proof Sys2Proof.Machine

/-! ### One GEN (R103) -/

section OneGen

variable (s : State)

theorem exec_gen_eq_afterExec : exec .gen s = .next (afterExec .gen s) := rfl

@[simp] theorem afterExec_gen_lfsr :
    (afterExec .gen s).lfsr = s.lfsr.set s.idx (feedback s.curByte s.nxtByte) := rfl

@[simp] theorem afterExec_gen_idx : (afterExec .gen s).idx = s.idx + 1#2 := rfl

@[simp] theorem afterExec_gen_rand : (afterExec .gen s).rand = s.curByte := rfl

@[simp] theorem afterExec_gen_history : (afterExec .gen s).history = s.history ++ [.gen s.curByte] := rfl

/-- GEN writes the byte at `IDX`. -/
theorem afterExec_gen_get_idx : (afterExec .gen s).lfsr.get s.idx = feedback s.curByte s.nxtByte :=
  Lfsr.get_set_same _ _ _

/-- GEN writes no other byte. -/
theorem afterExec_gen_get_of_ne {i : BitVec 2} (h : i ≠ s.idx) : (afterExec .gen s).lfsr.get i = s.lfsr.get i :=
  Lfsr.get_set_other _ _ h

end OneGen

/-! ### A run of GENs -/

section GenRuns

variable (s : State) (k j : Nat)

@[simp] theorem genRun_zero : genRun s 0 = s := rfl

theorem genRun_succ : genRun s (k + 1) = afterExec .gen (genRun s k) :=
  Function.iterate_succ_apply' _ _ _

theorem genRun_add : genRun s (k + j) = genRun (genRun s k) j := by
  rw [genRun, Nat.add_comm, Function.iterate_add_apply]
  rfl

theorem genRun_idx : (genRun s k).idx = s.idx + BitVec.ofNat 2 k := by
  induction k with
  | zero => simp
  | succ k ih => rw [genRun_succ, afterExec_gen_idx, ih, BitVec.ofNat_add, BitVec.add_assoc]

/-- A run of GENs keeps each byte that `IDX` has not passed. -/
theorem genRun_get_of_ne {i : BitVec 2} (h : ∀ m < k, i ≠ s.idx + BitVec.ofNat 2 m) :
    (genRun s k).lfsr.get i = s.lfsr.get i := by
  induction k with
  | zero => rfl
  | succ k ih =>
    have hi : i ≠ (genRun s k).idx := genRun_idx s k ▸ h k (Nat.lt_succ_self k)
    rw [genRun_succ, afterExec_gen_get_of_ne _ hi, ih fun m hm => h m (Nat.lt_succ_of_lt hm)]

/-! ### The bytes returned (R109) -/

/-- A GEN returns the byte that it overwrites. -/
theorem genByte_eq_curByte : genByte s k = (genRun s k).curByte := by
  rw [genByte, genRun_succ, afterExec_gen_rand]

theorem genByte_add : genByte s (k + j) = genByte (genRun s k) j := by
  rw [genByte_eq_curByte, genRun_add, genByte_eq_curByte]

variable {j}

/-- The next four bytes returned are those of `S`, from `IDX` on: `IDX` comes to each of them before it is overwritten. -/
theorem genByte_of_lt_four (hj : j < 4) : genByte s j = s.lfsr.get (s.idx + BitVec.ofNat 2 j) := by
  have hnot_passed : ∀ m < j, s.idx + BitVec.ofNat 2 j ≠ s.idx + BitVec.ofNat 2 m := by
    intro m hm
    bv_omega
  rw [genByte_eq_curByte, State.curByte, genRun_idx, genRun_get_of_ne s j hnot_passed]

/-- The fifth byte returned is the one that the first GEN wrote: its own `IDX` is the last that the next four GENs come
to. -/
theorem genByte_four : genByte s 4 = feedback (genByte s 0) (genByte s 1) := by
  have hidx : (genRun s 1).idx + 3#2 = s.idx := by
    rw [genRun_idx, BitVec.add_assoc]
    exact BitVec.add_zero s.idx
  calc genByte s 4
      = genByte (genRun s 1) 3 := genByte_add s 1 3
    _ = (genRun s 1).lfsr.get s.idx := by rw [genByte_of_lt_four _ (by decide), hidx]
    _ = feedback s.curByte s.nxtByte := afterExec_gen_get_idx s
    _ = feedback (genByte s 0) (genByte s 1) := by
        rw [genByte_eq_curByte s 0, genRun_zero, genByte_of_lt_four s (by decide)]
        rfl

end GenRuns

end Sys2Proof.Safety
end

section
/-! PROOFS. The statements about the Random Generator (spec/40_random_generator.md). -/

namespace Sys2Proof.Proofs

open Sys2Proof Sys2Proof.Machine Sys2Proof.Safety

/-- Settles O10: the byte written is R103's `feedback`, which is R106's form, and GEN writes no other byte. -/
theorem genAdvancesGenerator : Obligations.GenAdvancesGenerator := by
  intro s
  refine ⟨afterExec .gen s, exec_gen_eq_afterExec s, ?_, afterExec_gen_idx s,
    fun j hj => afterExec_gen_get_of_ne s hj, ?_⟩
  · rintro cur nxt rfl rfl
    exact ⟨afterExec_gen_rand s, afterExec_gen_history s,
      (afterExec_gen_get_idx s).trans (feedback_eq_windows _ _)⟩
  · exact ⟨⟨rfl, rfl, rfl, rfl⟩, rfl, ⟨rfl, rfl, rfl⟩, ⟨rfl, rfl, rfl⟩, ⟨rfl, rfl⟩, rfl, rfl, rfl⟩

/-- Settles O47: the window of the next four bytes gives the first part and, after `k` GENs, the third; the recurrence is
that of the fifth byte after `k` GENs. -/
theorem outputWindow : Obligations.OutputWindow := by
  refine ⟨fun s hlfsr hidx => ?_, fun s k => ?_, fun s k j hj => ?_⟩
  · have hseed : ∀ j < 4, genByte s j = Lfsr.get ⟨0x21#8, 0x2C#8, 0x7F#8, 0x7F#8⟩ (BitVec.ofNat 2 j) := by
      intro j hj
      rw [genByte_of_lt_four s hj, hlfsr, hidx, BitVec.zero_add]
    exact ⟨hseed 0 (by decide), hseed 1 (by decide), hseed 2 (by decide), hseed 3 (by decide)⟩
  · calc genByte s (k + 4)
        = genByte (genRun s k) 4 := genByte_add s k 4
      _ = feedback (genByte (genRun s k) 0) (genByte (genRun s k) 1) := genByte_four _
      _ = feedback (genByte s k) (genByte s (k + 1)) := by rw [← genByte_add, ← genByte_add, Nat.add_zero]
      _ = feedL (genByte s k) ^^^ feedM (genByte s (k + 1)) := feedback_eq_feedL_xor_feedM _ _
  · rw [genByte_add, genByte_of_lt_four _ hj]

end Sys2Proof.Proofs
end

section
/-! The enabled steps, read forwards: a ready step that is offered a legal word accepts it (spec/10_state.md R41), a
pending wait that completes takes the wait-done step (R42), and how `SEQ` moves in them (spec/41_blink_controller.md R162
to R167). -/

namespace Sys2Proof

/-- The commands that end in a wait-done step, FSTEP and WAIT (42_wait_and_misc.md R185). -/
def Instr.waits : Instr → Bool
  | .fstep | .wait _ => true
  | .nop | .init | .gen | .outh | .fstart => false

end Sys2Proof

namespace Sys2Proof.Machine

open Sys2Proof Sys2Proof.Safety

/-! ### The commands -/

/-- Every command answers a next state. -/
theorem exec_answers_next (i : Instr) (s : State) : ∃ t, exec i s = .next t := by
  cases i with
  | nop | init | gen | outh | fstart | wait ms => exact ⟨_, rfl⟩
  | fstep =>
    cases ha : s.act
    · exact ⟨_, exec_fstep_idle ha⟩
    · exact ⟨_, exec_fstep_active ha⟩

/-- A command only adds events at the history's end (10_state.md R45). -/
theorem exec_history_prefix {i : Instr} {s t : State} (h : exec i s = .next t) : s.history <+: t.history := by
  cases i with
  | nop | init | fstart => cases h; exact List.prefix_refl _
  | gen | outh | wait ms => cases h; exact List.prefix_append _ _
  | fstep =>
    cases ha : s.act
    · rw [exec_fstep_idle ha] at h
      cases h
      exact List.prefix_append _ _
    · rw [exec_fstep_active ha, fstepPhaseA_eq] at h
      cases h
      simp [List.append_assoc]

/-- A command that waits requests its wait, or it is an FSTEP that faults. -/
theorem exec_of_waits {i : Instr} {s t : State} (hw : i.waits = true) (h : exec i s = .next t) :
    t.waitPend = true ∨ t.fault = true := by
  cases i with
  | nop | init | gen | outh | fstart => cases hw
  | wait ms => cases h; exact .inl rfl
  | fstep =>
    cases ha : s.act
    · rw [exec_fstep_idle ha] at h; cases h; exact .inr rfl
    · rw [exec_fstep_active ha] at h; cases h; exact .inl rfl

/-- Any other command requests no wait and does not fault. -/
theorem exec_of_not_waits {i : Instr} {s t : State} (hw : i.waits = false) (h : exec i s = .next t) :
    t.waitPend = s.waitPend ∧ t.fault = s.fault := by
  cases i with
  | nop | init | gen | outh | fstart => cases h; exact ⟨rfl, rfl⟩
  | fstep | wait ms => cases hw

/-! ### The accept step (10_state.md R41) -/

theorem finishAccept_history_prefix (w : CmdWord) (s : State) : s.history <+: (finishAccept w s).history := by
  unfold finishAccept
  split
  · exact List.prefix_refl _
  · simp

@[simp] theorem retire_trig (w : CmdWord) (s : State) : (s.retire w).trig = s.trig := by
  simp [State.trig]

/-- A ready step that is offered the word of a command runs the command. -/
theorem step_of_ready {s : State} {i : Instr} (hr : Ready s) (ho : s.offered = some (encode i)) :
    ∃ u, exec i (s.consume.emit (.accept (encode i))) = .next u ∧ step s = .next (finishAccept (encode i) u) := by
  obtain ⟨⟨hrst, hheld⟩, hp, hf⟩ := hr
  obtain ⟨u, hu⟩ := exec_answers_next i (s.consume.emit (.accept (encode i)))
  refine ⟨u, hu, ?_⟩
  simp [step, cycle, hrst, hheld, hp, hf, ho, acceptStep, finishOutcome, hu]

/-- In AUTO mode a ready step moves the sequencer on, unless the command it accepts has still to wait. -/
theorem step_seq_of_auto_ready {s : State} (hm : s.mode = .auto) (hr : Ready s) :
    ∃ t, step s = .next t ∧
      t.seq = if (seqCommand s.seq).waits then s.seq else nextSeq s.seq t.trig t.act := by
  obtain ⟨u, hu, hstep⟩ := step_of_ready hr (offered_auto hm)
  obtain ⟨hseq, hmode⟩ := exec_sameControl hu
  refine ⟨_, hstep, ?_⟩
  cases hw : (seqCommand s.seq).waits
  · obtain ⟨hp, hf⟩ := exec_of_not_waits hw hu
    obtain ⟨_, hp', hf'⟩ := hr
    rw [finishAccept_retire (hp.trans hp') (hf.trans hf'), retire_seq, if_pos (hmode.trans hm), hseq]
    simp
  · rw [finishAccept_stay (exec_of_waits hw hu), hseq]
    rfl

/-! ### The wait-done step (10_state.md R42) -/

theorem step_of_waitCompletes {s : State} (h : WaitCompletes s) : step s = .next (waitDoneStep s.consume) := by
  obtain ⟨⟨hrst, hheld⟩, hf, hp, hd⟩ := h
  simp [step, cycle, hrst, hheld, hf, hp, hd]

@[simp] theorem waitDoneStep_cont (s : State) : (waitDoneStep s).cont = s.cont := by
  cases h : s.cont
  · simp [waitDoneStep_wait h, h]
  · simp [waitDoneStep_fstep h, h]

@[simp] theorem waitDoneStep_wms (s : State) : (waitDoneStep s).wms = s.wms := by
  cases h : s.cont
  · simp [waitDoneStep_wait h]
  · simp [waitDoneStep_fstep h]

theorem waitDoneStep_sameGenerator (s : State) : SameGenerator s (waitDoneStep s) := by
  cases h : s.cont
  · simp [SameGenerator, waitDoneStep_wait h]
  · simp [SameGenerator, waitDoneStep_fstep h]

theorem waitDoneStep_sameEnvironment (s : State) : SameEnvironment s (waitDoneStep s) := by
  cases h : s.cont
  · simp [SameEnvironment, waitDoneStep_wait h]
  · simp [SameEnvironment, waitDoneStep_fstep h]

/-- In AUTO mode the sequencer moves on when a wait ends. -/
theorem waitDoneStep_seq_auto {s : State} (hm : s.mode = .auto) :
    (waitDoneStep s).seq = nextSeq s.seq (waitDoneStep s).trig (waitDoneStep s).act := by
  cases h : s.cont
  · simp [waitDoneStep_wait h, retire_seq, hm]
  · simp [waitDoneStep_fstep h, retire_seq, hm]

end Sys2Proof.Machine
end

section
/-! The sub-steps of a fade (spec/41_blink_controller.md R136, R137): the wait-done step of an FSTEP, one equation for each
branch of its phase B, and what whole FSTEPs do within a cycle (R142). -/

namespace Sys2Proof.Machine

open Sys2Proof

/-! ### The wait-done step of an FSTEP, by the branches of R137 -/

section PhaseB

variable {s : State} (hcont : s.cont = .fstep)
include hcont

/-- Within a cycle phase B does nothing. -/
theorem waitDoneStep_within_cycle (hcnt : s.cnt < cycleLen) :
    waitDoneStep s = ({ s with
      waitPend := false, history := s.history ++ [.waitDone] } : State).retire 0x0005#16 := by
  rw [waitDoneStep_fstep hcont, fstepPhaseB, if_neg (BitVec.not_le.mpr hcnt)]

/-- The cycle at the level below `DIM_MAX` on the way up ends the fade, with the output high. -/
theorem waitDoneStep_ends_fade (hcnt : cycleLen ≤ s.cnt) (hup : s.up = true) (hdim : s.dim + 1#4 = dimMax) :
    waitDoneStep s = ({ s with
      waitPend := false, cnt := 0#4, dim := dimMax, act := false, eyes := true
      history := s.history ++ [.waitDone, .eyesWrite true] } : State).retire 0x0005#16 := by
  rw [waitDoneStep_fstep hcont, fstepPhaseB, if_pos hcnt, if_pos hup, if_pos hdim, hdim]
  simp [State.writeEyes, State.emit]

/-- Any other cycle on the way up moves the level up. -/
theorem waitDoneStep_moves_up (hcnt : cycleLen ≤ s.cnt) (hup : s.up = true) (hdim : s.dim + 1#4 ≠ dimMax) :
    waitDoneStep s = ({ s with
      waitPend := false, cnt := 0#4, dim := s.dim + 1#4
      history := s.history ++ [.waitDone] } : State).retire 0x0005#16 := by
  rw [waitDoneStep_fstep hcont, fstepPhaseB, if_pos hcnt, if_pos hup, if_neg hdim]

/-- The cycle at level 0 on the way down turns the fade and starts the extended cycle. -/
theorem waitDoneStep_turns (hcnt : cycleLen ≤ s.cnt) (hup : s.up = false) (hdim : s.dim = 0#4) :
    waitDoneStep s = ({ s with
      waitPend := false, cnt := extCount, up := true
      history := s.history ++ [.waitDone] } : State).retire 0x0005#16 := by
  rw [waitDoneStep_fstep hcont, fstepPhaseB, if_pos hcnt, if_neg (by simp [hup]), if_pos hdim]

/-- Any other cycle on the way down moves the level down. -/
theorem waitDoneStep_moves_down (hcnt : cycleLen ≤ s.cnt) (hup : s.up = false) (hdim : s.dim ≠ 0#4) :
    waitDoneStep s = ({ s with
      waitPend := false, cnt := 0#4, dim := s.dim - 1#4
      history := s.history ++ [.waitDone] } : State).retire 0x0005#16 := by
  rw [waitDoneStep_fstep hcont, fstepPhaseB, if_pos hcnt, if_neg (by simp [hup]), if_neg hdim]

/-- The counter after a cycle: the extended cycle's start at the turn, and 0 otherwise. -/
theorem waitDoneStep_cnt_of_cycle_end (hcnt : cycleLen ≤ s.cnt) :
    (waitDoneStep s).cnt = if s.up = false ∧ s.dim = 0#4 then extCount else 0#4 := by
  cases hup : s.up
  · by_cases hdim : s.dim = 0#4
    · simp [waitDoneStep_turns hcont hcnt hup hdim, hdim]
    · simp [waitDoneStep_moves_down hcont hcnt hup hdim, hdim]
  · by_cases hdim : s.dim + 1#4 = dimMax
    · simp [waitDoneStep_ends_fade hcont hcnt hup hdim]
    · simp [waitDoneStep_moves_up hcont hcnt hup hdim]

end PhaseB

end Sys2Proof.Machine

namespace Sys2Proof.Safety

open Sys2Proof Sys2Proof.Machine

/-! ### The wait of an FSTEP in an active fade (R136) -/

section Wait

variable {s : State} (hact : s.act = true)
include hact

theorem fstepWait_eq_phaseA : fstepWait s = fstepPhaseA (s.emit (.accept (encode .fstep))) := by
  simp [fstepWait, afterExec, exec_fstep_active (s := s.emit (.accept (encode .fstep))) hact]

theorem fstepWait_cont : (fstepWait s).cont = .fstep := by
  rw [fstepWait_eq_phaseA hact, fstepPhaseA_eq]

theorem fstepWait_cnt : (fstepWait s).cnt = s.cnt + 1#4 := by
  rw [fstepWait_eq_phaseA hact, fstepPhaseA_eq]
  rfl

theorem fstepWait_dim : (fstepWait s).dim = s.dim := by
  rw [fstepWait_eq_phaseA hact, fstepPhaseA_eq]
  rfl

theorem fstepWait_up : (fstepWait s).up = s.up := by
  rw [fstepWait_eq_phaseA hact, fstepPhaseA_eq]
  rfl

theorem fstepWait_act : (fstepWait s).act = true := by
  rw [fstepWait_eq_phaseA hact, fstepPhaseA_eq]
  exact hact

theorem fstepWait_eyes :
    (fstepWait s).eyes = if s.cnt = s.dim then false else if s.cnt = 0#4 then true else s.eyes := by
  rw [fstepWait_eq_phaseA hact, fstepPhaseA_eq]
  rfl

end Wait

/-! ### Whole FSTEPs -/

@[simp] theorem fadeRun_zero (s : State) : fadeRun s 0 = s := rfl

theorem fadeRun_succ (s : State) (k : Nat) : fadeRun s (k + 1) = fadeStep (fadeRun s k) :=
  Function.iterate_succ_apply' _ _ _

/-- The fade `t` stands before sub-step `k` of a cycle at level `d`, on the way up or not: after the first sub-step the
output has the level that sub-step `k - 1` waited with (R142). -/
structure BeforeSubStep (d : Nibble) (up : Bool) (k : Nat) (t : State) : Prop where
  act : t.act = true
  cnt : t.cnt = BitVec.ofNat 4 k
  dim : t.dim = d
  up : t.up = up
  eyes : 0 < k → t.eyes = decide (k ≤ d.toNat)

section Cycle

variable {d : Nibble} {up : Bool} {k : Nat} {t : State}

theorem BeforeSubStep.cnt_toNat (h : BeforeSubStep d up k t) (hk : k < 10) : t.cnt.toNat = k := by
  rw [h.cnt, BitVec.toNat_ofNat]
  omega

/-- Sub-step `k` waits lit when `k` is below the level. -/
theorem BeforeSubStep.fstepWait_eyes (h : BeforeSubStep d up k t) (hk : k < 10) :
    (fstepWait t).eyes = decide (k < d.toNat) := by
  have hcnt := h.cnt_toNat hk
  rw [Safety.fstepWait_eyes h.act, h.dim]
  simp only [← BitVec.toNat_inj, hcnt, BitVec.toNat_ofNat, Nat.zero_mod]
  by_cases hkd : k = d.toNat
  · simp [hkd]
  · rcases Nat.eq_zero_or_pos k with rfl | hpos
    · rw [if_neg hkd, if_pos rfl, decide_eq_true (by omega)]
    · rw [if_neg hkd, if_neg hpos.ne', h.eyes hpos, decide_eq_decide]
      omega

/-- Each sub-step but the last leads to the next one. -/
theorem BeforeSubStep.fadeStep (h : BeforeSubStep d up k t) (hk : k < 9) :
    BeforeSubStep d up (k + 1) (fadeStep t) := by
  have hcnt : (fstepWait t).cnt = BitVec.ofNat 4 (k + 1) := by
    rw [fstepWait_cnt h.act, h.cnt, BitVec.ofNat_add]
  have hlt : (fstepWait t).cnt < cycleLen := by
    rw [hcnt, cycleLen]
    bv_omega
  rw [Safety.fadeStep, waitDoneStep_within_cycle (fstepWait_cont h.act) hlt]
  exact {
    act := by simp [fstepWait_act h.act]
    cnt := by simp [hcnt]
    dim := by simp [fstepWait_dim h.act, h.dim]
    up := by simp [fstepWait_up h.act, h.up]
    eyes := fun _ => by simp [h.fstepWait_eyes (by omega)] }

/-- The tenth sub-step ends the cycle. -/
theorem BeforeSubStep.fadeStep_cnt_of_last (h : BeforeSubStep d up 9 t) :
    (Safety.fadeStep t).cnt = if up = false ∧ d = 0#4 then extCount else 0#4 := by
  have hend : cycleLen ≤ (fstepWait t).cnt := by
    rw [fstepWait_cnt h.act, h.cnt]
    decide
  rw [Safety.fadeStep, waitDoneStep_cnt_of_cycle_end (fstepWait_cont h.act) hend, fstepWait_up h.act,
    fstepWait_dim h.act, h.up, h.dim]

end Cycle

/-- A fade with `CNT = 0` runs through the sub-steps of its cycle. -/
theorem beforeSubStep_fadeRun {s : State} (hact : s.act = true) (hcnt : s.cnt = 0#4) {k : Nat} (hk : k < 10) :
    BeforeSubStep s.dim s.up k (fadeRun s k) := by
  induction k with
  | zero => exact ⟨hact, hcnt, rfl, rfl, fun h => absurd h (Nat.lt_irrefl 0)⟩
  | succ k ih =>
    rw [fadeRun_succ]
    exact (ih (by omega)).fadeStep (by omega)

end Sys2Proof.Safety
end

section
/-! PROOFS. The statements about the Blink Controller and the sequencer (spec/41_blink_controller.md). -/

namespace Sys2Proof.Proofs

open Sys2Proof Sys2Proof.Machine Sys2Proof.Safety

/-- Settles O12, by the equation of FSTART. -/
theorem fstartEntersFade : Obligations.FstartEntersFade :=
  fun s => ⟨_, exec_fstart s, rfl, rfl, rfl, rfl, rfl, ⟨rfl, rfl, rfl⟩, ⟨rfl, rfl, rfl⟩, ⟨rfl, rfl, rfl⟩, ⟨rfl, rfl⟩,
    ⟨rfl, rfl, rfl⟩, rfl⟩

/-- Settles O14, by `ACT`: the fault entry, or phase A. -/
theorem idleFstepFaults : Obligations.IdleFstepFaults := by
  refine ⟨fun s hact => ?_, fun s hact => ?_⟩
  · exact ⟨_, exec_fstep_idle hact, rfl, rfl, rfl, rfl, ⟨rfl, rfl, rfl⟩, ⟨rfl, rfl, rfl, rfl⟩, rfl, ⟨rfl, rfl, rfl⟩,
      ⟨rfl, rfl⟩, ⟨rfl, rfl, rfl⟩⟩
  · rcases exec_fault_cases (exec_fstep_active hact) with hsame | ⟨_, hidle, _⟩
    · exact ⟨_, exec_fstep_active hact, hsame⟩
    · simp [hact] at hidle

/-- Settles O28: the registers by the branches of R137, the others by what no wait-done step writes. -/
theorem fstepPhaseBEndsCycle : Obligations.FstepPhaseBEndsCycle := by
  intro s hdone hcont
  have hcont' : s.consume.cont = .fstep := hcont
  refine ⟨_, step_of_waitCompletes hdone, waitDoneStep_waitPend _, ?_, waitDoneStep_cont _, waitDoneStep_wms _,
    waitDoneStep_sameGenerator s.consume, waitDoneStep_sameFault s.consume, waitDoneStep_mode _,
    fun hm => waitDoneStep_seq_ext (s := s.consume) hm, waitDoneStep_sameEnvironment s.consume⟩
  split_ifs with hcnt hlast hup hdim
  · simp [waitDoneStep_within_cycle hcont' hcnt]
  all_goals have hend : cycleLen ≤ s.consume.cnt := BitVec.not_lt.mp hcnt
  · obtain ⟨hup, hdim⟩ := hlast
    have hmax : s.consume.dim + 1#4 = dimMax := by simp [hdim, dimMax]
    simp [waitDoneStep_ends_fade hcont' hend hup hmax, hup, dimMax]
  · have hmax : s.consume.dim + 1#4 ≠ dimMax := fun h => hlast ⟨hup, by simp [dimMax] at h; bv_omega⟩
    simp [waitDoneStep_moves_up hcont' hend hup hmax, hup]
  · simp [waitDoneStep_turns hcont' hend (by simpa using hup) hdim, hdim, extCount]
  · simp [waitDoneStep_moves_down hcont' hend (by simpa using hup) hdim, hup]

/-- Settles O33: the word offered is R161's, and what follows its `Accept` is only added. -/
theorem autoOffersSequencerCommand : Obligations.AutoOffersSequencerCommand := by
  intro s hm hr
  obtain ⟨u, hu, hstep⟩ := step_of_ready hr (offered_auto hm)
  obtain ⟨later, hlater⟩ := (exec_history_prefix hu).trans (finishAccept_history_prefix _ u)
  refine ⟨_, later, hstep, ?_⟩
  rw [← hlater, State.emit_history, List.append_assoc]
  cases s.seq <;> rfl

/-- Settles O34: `nextSeq` gives each move, in the accept step for the commands that do not wait and in the wait-done
step for the others. -/
theorem sequencerMovesAtRetire : Obligations.SequencerMovesAtRetire := by
  intro s hm
  refine ⟨fun hr => ?_, fun hdone => ⟨_, step_of_waitCompletes hdone, ?_⟩⟩
  · obtain ⟨t, hstep, hseq⟩ := step_seq_of_auto_ready hm hr
    refine ⟨t, hstep, ?_⟩
    cases hq : s.seq <;> simp [hseq, hq, seqCommand, Instr.waits, nextSeq]
  · have hseq := waitDoneStep_seq_auto (s := s.consume) hm
    rw [State.consume_seq] at hseq
    exact ⟨fun hq => by rw [hseq, hq]; rfl, fun hq => by rw [hseq, hq]; rfl⟩

/-- Settles O52: `BeforeSubStep` holds up to the tenth sub-step, which ends the cycle; the extended cycle's one sub-step
writes no output and moves the level up. -/
theorem cycleDuty : Obligations.CycleDuty := by
  refine ⟨fun s hact hcnt _ => ⟨fun k hk => ?_, ?_⟩, fun s hact hcnt hdim hup heyes => ?_⟩
  · have h := beforeSubStep_fadeRun hact hcnt hk
    exact ⟨h.fstepWait_eyes hk, h.cnt_toNat hk, h.dim⟩
  · rw [fadeRun_succ]
    exact (beforeSubStep_fadeRun hact hcnt (by decide)).fadeStep_cnt_of_last
  · have hend : cycleLen ≤ (fstepWait s).cnt := by
      rw [fstepWait_cnt hact, hcnt]
      decide
    have hdim' : (fstepWait s).dim = 0#4 := (fstepWait_dim hact).trans hdim
    have hmax : (fstepWait s).dim + 1#4 ≠ dimMax := by
      rw [hdim']
      decide
    have hrun : fadeRun s 1 = waitDoneStep (fstepWait s) := rfl
    rw [hrun, waitDoneStep_moves_up (fstepWait_cont hact) hend ((fstepWait_up hact).trans hup) hmax]
    exact ⟨by simp [fstepWait_eyes hact, hcnt, hdim, heyes], by simp, by simp [hdim'], by simp [fstepWait_act hact]⟩

end Sys2Proof.Proofs
end

section
/-! The fault entry (spec/60_exceptions.md R203) as one update of a ready machine, whichever of the two causes raises it
(R201, R202), and the statement about it. -/

namespace Sys2Proof.Machine

open Sys2Proof Sys2Proof.Safety

/-- A ready step that is offered a word is the accept step of the word (10_state.md R41). -/
theorem step_eq_acceptStep {s : State} {w : CmdWord} (hr : Ready s) (ho : s.offered = some w) :
    step s = acceptStep w s.consume := by
  obtain ⟨⟨hrst, hheld⟩, hp, hf⟩ := hr
  simp [step, cycle, hrst, hheld, hp, hf, ho]

/-- The accept step of an illegal word is the fault entry (60_exceptions.md R201). -/
theorem acceptStep_of_illegal {w : CmdWord} {s : State} (h : (decode w).isLegal = false) :
    acceptStep w s = .next ((s.emit (.accept w)).raiseFault .illegalCmd w) := by
  unfold acceptStep
  cases hd : decode w with
  | legal i => simp [hd, Decoded.isLegal] at h
  | illegal why => rfl

/-- The accept step of an FSTEP with `ACT = 0` is the fault entry: the faulted command does not retire (60_exceptions.md
R202, R203). -/
theorem acceptStep_fstep_idle {s : State} (h : s.act = false) :
    acceptStep 0x0005#16 s = .next ((s.emit (.accept 0x0005#16)).raiseFault .fstepIdle 0x0005#16) := by
  have hdecode : decode 0x0005#16 = .legal .fstep := rfl
  have hexec := exec_fstep_idle (s := s.emit (.accept 0x0005#16)) h
  simp only [acceptStep, hdecode, hexec, finishOutcome]
  rw [finishAccept_stay (.inr (State.raiseFault_fault _ _ _))]

/-- The step that enters the fault state, for both causes: `Accept`, then R203's writes, and nothing after them. -/
theorem step_of_fault_entry {s : State} {w : CmdWord} {c : Cause} (hr : Ready s) (ho : s.offered = some w)
    (hcause : ((decode w).isLegal = false ∧ c = .illegalCmd) ∨ (w = 0x0005#16 ∧ s.act = false ∧ c = .fstepIdle)) :
    step s = .next ((s.consume.emit (.accept w)).raiseFault c w) := by
  rw [step_eq_acceptStep hr ho]
  rcases hcause with ⟨hillegal, rfl⟩ | ⟨rfl, hact, rfl⟩
  · exact acceptStep_of_illegal hillegal
  · exact acceptStep_fstep_idle hact

end Sys2Proof.Machine

namespace Sys2Proof.Proofs

open Sys2Proof Sys2Proof.Machine Sys2Proof.Safety

/-- Settles O20: both causes make the same update, and what it writes and leaves is read off its fields. -/
theorem faultEntryRecordsOnly : Obligations.FaultEntryRecordsOnly := by
  intro s w c hr ho hcause
  refine ⟨_, step_of_fault_entry hr ho hcause, rfl, rfl, rfl, ?history, ⟨rfl, rfl, rfl⟩, ⟨rfl, rfl, rfl, rfl⟩, rfl,
    ⟨rfl, rfl, rfl⟩, ⟨rfl, rfl⟩, rfl, rfl, rfl⟩
  case history => simp

end Sys2Proof.Proofs
end

section
/-! The reset step when `rst` is asserted (spec/10_state.md R44, 70_reset_and_hazards.md R230, R231). -/

namespace Sys2Proof.Machine

open Sys2Proof Sys2Proof.Safety

/-- The reset step writes every register of R21, whatever the state held. -/
theorem resetStep_holdsResetValues (m : Mode) (s : State) : HoldsResetValues m (s.resetStep m) :=
  ⟨rfl, rfl, rfl, rfl, rfl, rfl, rfl, rfl, rfl, rfl, rfl, rfl, rfl, rfl, rfl, rfl⟩

/-- A newly asserted `rst` comes before every other step: no wait, fault or offered word is looked at. -/
theorem step_of_rst_asserted {s : State} (hrst : s.frame.rst = true) (hheld : s.rstHeld = false) :
    step s = .next (State.resetStep s.frame.mode { s.consume with rstHeld := true }) := by
  simp [step, cycle, hrst, hheld]

end Sys2Proof.Machine

namespace Sys2Proof.Proofs

open Sys2Proof Sys2Proof.Machine Sys2Proof.Safety

/-- Settles O22: the step is the reset step, which writes every register and leaves the schedule and the transients. -/
theorem resetLoadsResetValues : Obligations.ResetLoadsResetValues := by
  intro s hrst hheld
  exact ⟨_, step_of_rst_asserted hrst hheld, resetStep_holdsResetValues _ _, State.resetStep_history _ _, rfl, rfl, rfl⟩

end Sys2Proof.Proofs
end

section
/-! The fields of the legal words and the expansions of the pseudo-commands (spec/30_encoding.md R80 to R91). -/

namespace Sys2Proof

/-- Of the reserved and assigned values of `OP`, those up to `6` are assigned (R83, R84). -/
theorem op_le_six_iff : ∀ op : Nibble, op ≤ 6#4 ↔
    op = 6#4 ∨ op = 0#4 ∨ op = 1#4 ∨ op = 2#4 ∨ op = 3#4 ∨ op = 4#4 ∨ op = 5#4 := by
  decide

theorem Cmd16.wellFormed_iff (c : Cmd16) :
    c.wellFormed = true ↔ c.rsv = 0#4 ∧ c.op ≤ 6#4 ∧ (c.op = 6#4 ∨ c.imm8 = 0#8) := by
  simp [wellFormed, rsvClear, opAssigned, immAllowed, and_assoc]

/-- The fields of a command are well formed (R82). -/
theorem Instr.fields_wellFormed (i : Instr) : i.fields.wellFormed = true := by
  cases i <;> rfl

/-- Well-formed fields select a command: `OP` names it, and only WAIT reads `IMM8` (R84, R85). -/
theorem Cmd16.decode_of_wellFormed {c : Cmd16} (h : c.wellFormed = true) : ∃ i, c.decode = .legal i := by
  obtain ⟨hrsv, hop, himm⟩ := (wellFormed_iff c).mp h
  by_cases hwait : c.op = 6#4
  · exact ⟨.wait c.imm8, by simp [decode, hrsv, hwait]⟩
  · have himm : c.imm8 = 0#8 := himm.resolve_left hwait
    have hop := ((op_le_six_iff c.op).mp hop).resolve_left hwait
    rcases hop with hop | hop | hop | hop | hop | hop <;> simp [decode, hrsv, himm, hop]

/-- Fields decode to a command exactly when they are well formed. -/
theorem Cmd16.isLegal_decode (c : Cmd16) : c.decode.isLegal = c.wellFormed := by
  rw [Bool.eq_iff_iff, Decoded.isLegal_iff]
  constructor
  · rintro ⟨i, hi⟩
    rw [← fields_of_decode hi]
    exact i.fields_wellFormed
  · exact decode_of_wellFormed

end Sys2Proof

namespace Sys2Proof.Machine

open Sys2Proof

/-- FADE with the level seen at FSTART is FSTART and the FSTEPs of R144 (R90). -/
theorem expand_fade {d : Nibble} (hd : d ≤ dimMax) :
    Source.expand (some d) .fade = some (.fstart :: List.replicate (fadeLength d) .fstep) := by
  simp [Source.expand, Option.filter, hd]

/-- The assembler writes the words of commands only. -/
theorem eq_encode_of_mem_assemble {d : Option Nibble} {c : Source} {ws : List CmdWord} (h : assemble d c = some ws)
    {w : CmdWord} (hw : w ∈ ws) : ∃ i, encode i = w := by
  obtain ⟨is, _, rfl⟩ := Option.map_eq_some_iff.mp h
  obtain ⟨i, _, hi⟩ := List.mem_map.mp hw
  exact ⟨i, hi⟩

end Sys2Proof.Machine
end

section
/-! PROOFS. The round trip of the encoding, the well-formed words and the assembler's expansions
(spec/30_encoding.md). -/

namespace Sys2Proof.Proofs

open Sys2Proof Sys2Proof.Machine

/-- Settles O1: the fields of a command survive the word, and they decode to the command. -/
theorem decodeOfEncode : Obligations.DecodeOfEncode :=
  fun i _ => decode_encode i

/-- Settles O2: the fields a command was decoded from are its own, and a word is determined by its fields. -/
theorem encodeOfDecode : Obligations.EncodeOfDecode :=
  fun _ _ => encode_of_decode

/-- Settles O4, on the fields of the word. -/
theorem legalIffFieldsWellFormed : Obligations.LegalIffFieldsWellFormed :=
  fun w => Cmd16.isLegal_decode (Cmd16.ofWord w)

/-- Settles O5: each word is that of its command, by R80's fields. -/
theorem listedWordsDecode : Obligations.ListedWordsDecode := by
  have hwords : encode (.wait 2#8) = 0x0206#16 ∧ encode (.wait 100#8) = 0x6406#16 ∧
      encode (.wait 0#8) = 0x0006#16 ∧ encode (.wait 255#8) = 0xFF06#16 := by decide
  obtain ⟨hnop, hinit, hgen, houth, hfstart, hfstep⟩ := encode_fixed_words
  obtain ⟨h2, h100, h0, h255⟩ := hwords
  simp only [Obligations.ListedWordsDecode, decode_eq_legal_iff, hnop, hinit, hgen, houth, hfstart, hfstep, h2, h100,
    h0, h255, and_self]

/-- Settles O6: the expansions by their definition, with the length of R144, and each of their words is a command's. -/
theorem pseudoCommandsExpand : Obligations.PseudoCommandsExpand := by
  refine ⟨fun d => ⟨rfl, rfl⟩, rfl, fun d hd => ?_, fun d c ws hws w hw => ?_⟩
  · have hfstart : encode .fstart = 0x0004#16 := rfl
    have hfstep : encode .fstep = 0x0005#16 := rfl
    rw [assemble, expand_fade hd, fadeLength_eq, Option.map_some, List.map_cons, List.map_replicate, hfstart, hfstep]
  · obtain ⟨i, rfl⟩ := eq_encode_of_mem_assemble hws hw
    rw [decode_encode]
    rfl

end Sys2Proof.Proofs
end

section
/-! PROOFS. The commands' own rules, with what each leaves unchanged (spec/40_random_generator.md,
spec/41_blink_controller.md, spec/42_wait_and_misc.md). -/

namespace Sys2Proof.Machine

open Sys2Proof Sys2Proof.Safety

/-- A command other than INIT and GEN leaves the generator as it was (10_state.md R26, R33). -/
theorem exec_sameGenerator {i : Instr} {s t : State} (hinit : i ≠ .init) (hgen : i ≠ .gen)
    (h : exec i s = .next t) : SameGenerator s t := by
  cases i with
  | init => exact absurd rfl hinit
  | gen => exact absurd rfl hgen
  | nop | outh | fstart | wait ms => cases h; exact ⟨rfl, rfl, rfl⟩
  | fstep =>
    cases ha : s.act
    · rw [exec_fstep_idle ha] at h; cases h; exact ⟨rfl, rfl, rfl⟩
    · rw [exec_fstep_active ha, fstepPhaseA_eq] at h; cases h; exact ⟨rfl, rfl, rfl⟩

end Sys2Proof.Machine

namespace Sys2Proof.Proofs

open Sys2Proof Sys2Proof.Machine Sys2Proof.Safety

/-- Settles O7, by the command; FSTEP by `ACT`. -/
theorem everyCommandAnswersNext : Obligations.EveryCommandAnswersNext :=
  exec_answers_next

/-- Settles O8, by the equation of NOP. -/
theorem nopChangesNothing : Obligations.NopChangesNothing :=
  fun s => ⟨s, exec_nop s, ⟨⟨rfl, rfl, rfl⟩, ⟨rfl, rfl, rfl, rfl⟩, rfl, ⟨rfl, rfl, rfl⟩, ⟨rfl, rfl, rfl⟩, rfl, rfl⟩,
    ⟨rfl, rfl, rfl⟩, rfl⟩

/-- Settles O9, by the equation of INIT. -/
theorem initLoadsSeed : Obligations.InitLoadsSeed :=
  fun s => ⟨_, exec_init s, rfl, rfl, rfl, rfl, ⟨rfl, rfl, rfl, rfl⟩, rfl, ⟨rfl, rfl, rfl⟩, ⟨rfl, rfl, rfl⟩, ⟨rfl, rfl⟩,
    ⟨rfl, rfl, rfl⟩, rfl⟩

/-- Settles O11, by the equation of OUTH. -/
theorem outhDrivesHigh : Obligations.OuthDrivesHigh :=
  fun s => ⟨_, exec_outh s, State.writeEyes_eyes s true, State.writeEyes_history s true, ⟨rfl, rfl, rfl⟩,
    ⟨rfl, rfl, rfl, rfl⟩, ⟨rfl, rfl, rfl⟩, ⟨rfl, rfl, rfl⟩, ⟨rfl, rfl⟩, ⟨rfl, rfl, rfl⟩⟩

/-- Settles O15, by the equation of WAIT. -/
theorem waitRequestsItsOperand : Obligations.WaitRequestsItsOperand :=
  fun ms s => ⟨_, exec_wait ms s, rfl, rfl, rfl, State.requestWait_history s .wait ms, ⟨rfl, rfl, rfl⟩,
    ⟨rfl, rfl, rfl, rfl⟩, rfl, ⟨rfl, rfl, rfl⟩, ⟨rfl, rfl⟩, ⟨rfl, rfl, rfl⟩⟩

/-- Settles O13: phase A as one update. The two writes both happen exactly when `CNT = 0` and `DIM = 0`. -/
theorem fstepPhaseADrivesOutput : Obligations.FstepPhaseADrivesOutput := by
  intro s hact
  have hboth : (s.cnt = 0#4 ∧ s.cnt = s.dim) ↔ (s.cnt = 0#4 ∧ s.dim = 0#4) :=
    and_congr_right fun hcnt => by rw [hcnt, eq_comm]
  refine ⟨_, (exec_fstep_active hact).trans (congrArg _ (fstepPhaseA_eq s)), rfl, rfl, rfl, rfl, rfl, rfl,
    fun hdouble => ?_, fun hsingle => ?_, rfl, rfl, hact, ⟨rfl, rfl, rfl⟩, ⟨rfl, rfl, rfl⟩, ⟨rfl, rfl⟩, rfl, rfl⟩
  · exact ⟨_, if_pos (hboth.mpr hdouble)⟩
  · exact if_neg fun h => hsingle (hboth.mp h)

/-- Settles O16: the two registers' writers, by the lemma about each. -/
theorem generatorAndFaultWriters : Obligations.GeneratorAndFaultWriters := by
  intro i s t h
  refine ⟨fun hinit hgen => exec_sameGenerator hinit hgen h, fun hidle => ?_⟩
  rcases exec_fault_cases h with hsame | ⟨hi, hact, _⟩
  · exact hsame
  · exact absurd ⟨hi, hact⟩ hidle

end Sys2Proof.Proofs
end

section
/-! The steps that change no register, the release of `rst`, and runs of several steps (spec/10_state.md R40 to R44,
60_exceptions.md R204, 70_reset_and_hazards.md R230). -/

namespace Sys2Proof.Machine

open Sys2Proof Sys2Proof.Safety

/-! ### Steps that the levels do not enable -/

/-- A ready step with no word offered only uses up its levels. -/
theorem step_of_nothing_offered {s : State} (hr : Ready s) (ho : s.offered = none) : step s = .next s.consume := by
  obtain ⟨⟨hrst, hheld⟩, hp, hf⟩ := hr
  simp [step, cycle, hrst, hheld, hp, hf, ho]

/-- In the fault state a step only uses up its levels, or there are none to come and the machine stands still. -/
theorem step_of_fault {s : State} (hr : NoReset s) (hf : s.fault = true) :
    step s = if s.inputs = [] then .fault (.halted s.cause) else .next s.consume := by
  obtain ⟨hrst, hheld⟩ := hr
  simp [step, cycle, hrst, hheld, hf]

/-- A pending wait that is not completed goes on. -/
theorem step_of_wait_goes_on {s : State} (hr : NoReset s) (hf : s.fault = false) (hp : s.waitPend = true)
    (hd : s.frame.waitDone = false) : step s = .next s.consume := by
  obtain ⟨hrst, hheld⟩ := hr
  simp [step, cycle, hrst, hheld, hf, hp, hd]

/-- While `rst` is held a step only uses up its levels. -/
theorem step_of_rst_held {s : State} (hrst : s.frame.rst = true) (hheld : s.rstHeld = true) :
    step s = .next s.consume := by
  simp [step, cycle, hrst, hheld]

/-- The release of `rst` takes the reset step again. -/
theorem step_of_rst_released {s : State} (hrst : s.frame.rst = false) (hheld : s.rstHeld = true) :
    step s = .next (State.resetStep s.frame.mode { s.consume with rstHeld := false }) := by
  simp [step, cycle, hrst, hheld]

/-! ### The command port (10_state.md R40) -/

/-- Where a command could be accepted and yet `cmd_ready = 0`, the mode is AUTO. -/
theorem mode_of_not_cmdReady {s : State} (hready : s.cmdReady = false) (haccept : s.canAccept = true) :
    s.mode = .auto := by
  cases hm : s.mode with
  | auto => rfl
  | ext => simp [State.cmdReady, haccept, hm] at hready

/-! ### Ready steps of AUTO mode -/

/-- A schedule without `rst` leaves the coming step without `rst`. -/
theorem frame_rst_of_inputs {s : State} (h : ∀ f ∈ s.inputs, f.rst = false) : s.frame.rst = false := by
  unfold State.frame
  cases hi : s.inputs with
  | nil => rfl
  | cons f rest => exact h f (by simp [hi])

/-- A ready step of AUTO mode whose command does not wait runs the command and retires it. -/
theorem step_of_auto_retires {s u : State} {i : Instr} (hm : s.mode = .auto) (hr : Ready s)
    (hi : seqCommand s.seq = i) (hw : i.waits = false) (hu : exec i (s.consume.emit (.accept (encode i))) = .next u) :
    step s = .next (u.retire (encode i)) := by
  obtain ⟨u', hu', hstep⟩ := step_of_ready hr (offered_auto hm)
  rw [hi, hu] at hu'
  cases hu'
  obtain ⟨hp, hf⟩ := exec_of_not_waits hw hu
  obtain ⟨_, hp', hf'⟩ := hr
  rw [hstep, hi, finishAccept_retire (hp.trans hp') (hf.trans hf')]

/-- A ready step of AUTO mode whose command waits runs the command and does not retire it. -/
theorem step_of_auto_waits {s u : State} {i : Instr} (hm : s.mode = .auto) (hr : Ready s)
    (hi : seqCommand s.seq = i) (hw : i.waits = true) (hu : exec i (s.consume.emit (.accept (encode i))) = .next u) :
    step s = .next u := by
  obtain ⟨u', hu', hstep⟩ := step_of_ready hr (offered_auto hm)
  rw [hi, hu] at hu'
  cases hu'
  rw [hstep, hi, finishAccept_stay (exec_of_waits hw hu)]

/-! ### The boot of AUTO mode (70_reset_and_hazards.md R235) -/

/-- The registers of the AUTO reset state but for `SEQ`, with a history and levels to come. -/
def booting (q : Seq) (h : List Event) (l : List Frame) : State :=
  { State.resetWith .auto with seq := q, history := h, inputs := l }

theorem booting_ready (q : Seq) (h : List Event) {l : List Frame} (hl : ∀ f ∈ l, f.rst = false) :
    Ready (booting q h l) :=
  ⟨⟨frame_rst_of_inputs hl, rfl⟩, rfl, rfl⟩

/-- INIT at boot loads what the reset step has loaded. -/
theorem step_booting_boot0 (h : List Event) {l : List Frame} (hl : ∀ f ∈ l, f.rst = false) :
    step (booting .boot0 h l) = .next (booting .boot1 (h ++ [Event.accept 0x0001#16, .retire 0x0001#16]) l.tail) := by
  rw [step_of_auto_retires (i := .init) rfl (booting_ready _ h hl) rfl rfl (exec_init _),
    List.append_cons h]
  rfl

/-- OUTH at boot drives the output to the level that the reset step has set. -/
theorem step_booting_boot1 (h : List Event) {l : List Frame} (hl : ∀ f ∈ l, f.rst = false) :
    step (booting .boot1 h l) =
      .next (booting .gen (h ++ [Event.accept 0x0003#16, .eyesWrite true, .retire 0x0003#16]) l.tail) := by
  rw [step_of_auto_retires (i := .outh) rfl (booting_ready _ h hl) rfl rfl (exec_outh _),
    List.append_cons h, List.append_cons (h ++ [Event.accept 0x0003#16])]
  rfl

/-! ### A WAIT from its accept step on (42_wait_and_misc.md R180, R183) -/

/-- The state after the accept step of a WAIT, with levels to come. -/
def acceptedWait (s : State) (ms : Byte) (l : List Frame) : State :=
  { s with
    waitPend := true, cont := .wait, wms := ms, inputs := l
    history := s.history ++ [Event.accept (encode (.wait ms)), .waitReq ms] }

/-- A ready step that is offered a WAIT requests the wait and does not retire it. -/
theorem step_of_ready_wait {s : State} {ms : Byte} (hr : Ready s) (ho : s.offered = some (encode (.wait ms))) :
    step s = .next (acceptedWait s ms s.inputs.tail) := by
  obtain ⟨u, hu, hstep⟩ := step_of_ready hr ho
  cases (exec_wait ms _).symm.trans hu
  rw [hstep, finishAccept_stay (.inl rfl)]
  simp [acceptedWait, State.requestWait, State.emit, State.consume]

/-! ### Runs -/

theorem run_zero (s : State) : Sys2Proof.core.run 0 s = .next s := rfl

theorem run_succ_of_step {s t : State} (h : step s = .next t) (k : Nat) :
    Sys2Proof.core.run (k + 1) s = Sys2Proof.core.run k t := by
  have hcore : Sys2Proof.core.step s = .next t := h
  simp only [Host.Core.run, hcore]

/-- A run that answers a next state begins with a step that does. -/
theorem step_of_run_succ {k : Nat} {s t : State} (h : Sys2Proof.core.run (k + 1) s = .next t) :
    ∃ u, step s = .next u ∧ Sys2Proof.core.run k u = .next t := by
  cases hs : Sys2Proof.core.step s with
  | next u => exact ⟨u, hs, by simpa only [Host.Core.run, hs] using h⟩
  | fault r => simp only [Host.Core.run, hs, reduceCtorEq] at h
  | refused r => simp only [Host.Core.run, hs, reduceCtorEq] at h

/-- A run goes on from where its first part ends. -/
theorem run_add_of_run {m : Nat} {s t : State} (h : Sys2Proof.core.run m s = .next t) (k : Nat) :
    Sys2Proof.core.run (m + k) s = Sys2Proof.core.run k t := by
  induction m generalizing s with
  | zero =>
    cases h
    rw [Nat.zero_add]
  | succ m ih =>
    obtain ⟨u, hstep, hrun⟩ := step_of_run_succ h
    rw [Nat.add_right_comm, run_succ_of_step hstep, ih hrun]

/-- A pending wait holds over any levels that neither complete it nor reset the block (42_wait_and_misc.md R181). -/
theorem run_while_waiting {s : State} {idle rest : List Frame} (hi : s.inputs = idle ++ rest)
    (hheld : s.rstHeld = false) (hf : s.fault = false) (hp : s.waitPend = true)
    (hidle : ∀ f ∈ idle, f.rst = false ∧ f.waitDone = false) :
    Sys2Proof.core.run idle.length s = .next { s with inputs := rest } := by
  induction idle generalizing s with
  | nil => rw [← (show s.inputs = rest from hi)]; rfl
  | cons f idle ih =>
    have hframe : s.frame = f := frame_of_inputs hi
    obtain ⟨hrst, hdone⟩ := hidle f List.mem_cons_self
    have hstep : step s = .next s.consume :=
      step_of_wait_goes_on ⟨by rw [hframe, hrst], hheld⟩ hf hp (by rw [hframe, hdone])
    rw [List.length_cons, run_succ_of_step hstep]
    exact ih (s := s.consume) (by rw [State.consume_inputs, hi]; rfl) hheld hf hp
      fun g hg => hidle g (List.mem_cons_of_mem f hg)

end Sys2Proof.Machine
end

section
/-! PROOFS. The statements about single steps and the runs of one command (spec/10_state.md, 42_wait_and_misc.md,
60_exceptions.md, 70_reset_and_hazards.md). -/

namespace Sys2Proof.Proofs

open Sys2Proof Sys2Proof.Machine Sys2Proof.Safety

/-- Settles O17: the end of the accept step, by whether the command waits or faulted, and by the mode. -/
theorem stepRunsDecodedCommand : Obligations.StepRunsDecodedCommand := by
  intro s w i hr ho hi _
  obtain rfl : encode i = w := encode_of_decode hi
  obtain ⟨t, ht, hstep⟩ := step_of_ready hr ho
  refine ⟨t, ht, fun hstay => ?_, fun hp hf hm => ?_, fun hp hf hm => ?_⟩
  · rw [hstep, finishAccept_stay hstay]
  · rw [hstep, finishAccept_retire hp hf, retire_eq, if_neg (by simp [hm])]
  · rw [hstep, finishAccept_retire hp hf, retire_eq, if_pos hm]

/-- Settles O19: in EXT mode `cmd_valid = 0` offers no word. -/
theorem nothingOfferedNothingDone : Obligations.NothingOfferedNothingDone := by
  intro s hm hr hv
  exact step_of_nothing_offered hr (by rw [offered_ext hm, hv]; rfl)

/-- Settles O21, by whether levels are still to come. -/
theorem faultStateIsQuiescent : Obligations.FaultStateIsQuiescent := by
  intro s hr hf
  exact ⟨fun hi => (step_of_fault hr hf).trans (if_pos hi), fun hi => (step_of_fault hr hf).trans (if_neg hi)⟩

/-- Settles O23: held, `rst` stops every step; released, it takes the reset step. -/
theorem resetHeldThenTakenAgain : Obligations.ResetHeldThenTakenAgain := by
  intro s hheld
  refine ⟨fun hrst => step_of_rst_held hrst hheld, fun hrst => ?_⟩
  exact ⟨_, step_of_rst_released hrst hheld, resetStep_holdsResetValues _ _, State.resetStep_history _ _, rfl, rfl, rfl⟩

/-- Settles O24. -/
theorem pendingWaitHoldsRegisters : Obligations.PendingWaitHoldsRegisters :=
  fun _ hr hf hp hd => step_of_wait_goes_on hr hf hp hd

/-- Settles O25: the step reads `wait_done` only while a wait is pending. -/
theorem waitDoneIgnoredWithNoWait : Obligations.WaitDoneIgnoredWithNoWait := by
  intro s f rest level hs hp
  have hoffer : ({ s with inputs := { f with waitDone := level } :: rest } : State).offered = s.offered :=
    offered_congr rfl rfl (by rw [frame_of_inputs hs]; rfl) (by rw [frame_of_inputs hs]; rfl)
  exact step_congr_ports hs rfl rfl (fun hp' => by simp [hp] at hp') (fun _ => hoffer)

/-- Settles O26: the step reads the command port only where a command can be accepted, and there the mode is AUTO, where
the sequencer offers the word. -/
theorem commandPortIgnoredUnlessReady : Obligations.CommandPortIgnoredUnlessReady := by
  intro s f rest valid w hs hready
  refine step_congr_ports hs rfl rfl (fun _ => rfl) (fun haccept => ?_)
  have hm : s.mode = .auto := mode_of_not_cmdReady hready haccept
  exact (offered_auto (s := { s with inputs := { f with cmdValid := valid, cmd := w } :: rest }) hm).trans
    (offered_auto hm).symm

/-- Settles O27: the registers by the equation of a WAIT's wait-done step. -/
theorem waitDoneRetiresWait : Obligations.WaitDoneRetiresWait := by
  intro s hdone hcont
  have hword : (encode (.wait s.wms)).toNat = 256 * s.wms.toNat + 6 := Cmd16.toWord_toNat _
  refine ⟨_, step_of_waitCompletes hdone, waitDoneStep_waitPend _, waitDoneStep_cont _, waitDoneStep_wms _,
    ⟨encode (.wait s.wms), hword, ?history⟩, waitDoneStep_sameGenerator s.consume, ?fade, ?eyes,
    waitDoneStep_sameFault s.consume, waitDoneStep_mode _, fun hm => waitDoneStep_seq_ext (s := s.consume) hm,
    waitDoneStep_sameEnvironment s.consume⟩
  all_goals rw [waitDoneStep_wait (s := s.consume) hcont]
  case history => simp
  case fade => simp [SameFade]
  case eyes => simp

/-- Settles O29: after the accept step the wait holds over the idle levels, and the level with `wait_done` ends it. -/
theorem waitTakesTwoSteps : Obligations.WaitTakesTwoSteps := by
  intro s ms offer done idle rest hm hheld hp hf hi horst hvalid hcmd hidle hdrst hdone
  have hframe : s.frame = offer := frame_of_inputs hi
  have hready : Ready s := ⟨⟨by rw [hframe, horst], hheld⟩, hp, hf⟩
  have hoffered : s.offered = some (encode (.wait ms)) := by
    rw [offered_ext hm, hframe, hvalid, hcmd, if_pos rfl]
  have haccept := step_of_ready_wait hready hoffered
  have htail : s.inputs.tail = idle ++ done :: rest := by rw [hi, List.tail_cons]
  have hrun : ∀ k, k ≤ idle.length →
      Sys2Proof.core.run (k + 1) s = .next (acceptedWait s ms (idle.drop k ++ done :: rest)) := by
    intro k hk
    have hsplit : s.inputs.tail = idle.take k ++ (idle.drop k ++ done :: rest) := by
      rw [htail, ← List.append_assoc, List.take_append_drop]
    have hlen : (idle.take k).length = k := List.length_take_of_le hk
    have hwait := run_while_waiting (s := acceptedWait s ms s.inputs.tail) hsplit hheld hf rfl
      fun f hmem => hidle f (List.mem_of_mem_take hmem)
    rw [hlen] at hwait
    exact (run_succ_of_step haccept k).trans hwait
  have hlast := hrun idle.length (Nat.le_refl _)
  rw [List.drop_length, List.nil_append] at hlast
  have hcompletes := step_of_waitCompletes (s := acceptedWait s ms (done :: rest)) ⟨⟨hdrst, hheld⟩, hf, rfl, hdone⟩
  refine ⟨fun k hk => ⟨_, hrun k hk, rfl, rfl, rfl, rfl⟩, _,
    (run_add_of_run hlast 1).trans (run_succ_of_step hcompletes 0), waitDoneStep_waitPend _, ?_, ?_⟩
  · exact (waitDoneStep_sameEnvironment (acceptedWait s ms (done :: rest)).consume).1
  · rw [waitDoneStep_wait rfl, retire_history]
    simp [acceptedWait]

/-- Settles O36: the two steps of the boot change nothing but `SEQ`, the history and the levels to come. -/
theorem autoBootRepeatsResetState : Obligations.AutoBootRepeatsResetState := by
  intro l hl
  have hinit := step_booting_boot0 [Event.reset] hl
  have houth := step_booting_boot1 ([Event.reset] ++ [Event.accept 0x0001#16, .retire 0x0001#16])
    fun f hf => hl f (List.mem_of_mem_tail hf)
  exact ⟨_, (run_succ_of_step hinit 1).trans (run_succ_of_step houth 0), rfl,
    ⟨rfl, rfl, rfl, rfl, rfl, rfl, rfl, rfl, rfl, rfl, rfl, rfl, rfl, rfl, rfl, rfl⟩, rfl⟩

end Sys2Proof.Proofs
end

section
/-! The algebra of the Random Generator (spec/40_random_generator.md R107, R110): GEN's new byte is linear in the two
bytes it reads, GEN can be undone, and the bytes returned are windows of one bit stream. -/

namespace Sys2Proof.Safety

open Sys2Proof Sys2Proof.Machine

/-! ### `L` and `M` (R107) -/

theorem feedL_xor (a b : Byte) : feedL (a ^^^ b) = feedL a ^^^ feedL b := by
  simp only [feedL, BitVec.shiftLeft_xor_distrib]
  ac_rfl

theorem feedM_xor (a b : Byte) : feedM (a ^^^ b) = feedM a ^^^ feedM b := by
  simp only [feedM, BitVec.ushiftRight_xor_distrib]
  ac_rfl

theorem feedL_eq_zero : ∀ c : Byte, feedL c = 0#8 → c = 0#8 := by
  decide

/-- `L` is linear and only 0 goes to 0. -/
theorem feedL_injective : Function.Injective feedL := by
  intro a b h
  have hzero : feedL (a ^^^ b) = 0#8 := by rw [feedL_xor, h, BitVec.xor_self]
  exact BitVec.xor_eq_zero_iff.mp (feedL_eq_zero _ hzero)

theorem feedL_bijective : Function.Bijective feedL :=
  Finite.injective_iff_bijective.mp feedL_injective

/-- GEN's new byte determines the byte it overwrites, given the next one. -/
theorem feedback_left_injective {a b n : Byte} (h : feedback a n = feedback b n) : a = b := by
  simp only [feedback_eq_feedL_xor_feedM, BitVec.xor_left_inj] at h
  exact feedL_injective h

/-- Every byte is GEN's new byte for some byte overwritten, given the next one. -/
theorem exists_feedback_eq (n v : Byte) : ∃ c, feedback c n = v := by
  obtain ⟨c, hc⟩ := feedL_bijective.2 (v ^^^ feedM n)
  exact ⟨c, by rw [feedback_eq_feedL_xor_feedM, hc, BitVec.xor_assoc, BitVec.xor_self, BitVec.xor_zero]⟩

theorem feedback_xor (a b m n : Byte) : feedback (a ^^^ b) (m ^^^ n) = feedback a m ^^^ feedback b n := by
  simp only [feedback_eq_feedL_xor_feedM, feedL_xor, feedM_xor]
  ac_rfl

/-! ### GEN on `S` and `IDX` -/

theorem nextIndex_ne (i : BitVec 2) : nextIndex i ≠ i := by
  unfold nextIndex
  bv_omega

theorem nextIndex_injective : Function.Injective nextIndex := by
  intro i j h
  unfold nextIndex at h
  bv_omega

theorem genNext_get_same (a : Lfsr) (i : BitVec 2) :
    (genNext (a, i)).1.get i = feedback (a.get i) (a.get (nextIndex i)) :=
  Lfsr.get_set_same _ _ _

theorem genNext_get_other (a : Lfsr) {i j : BitVec 2} (h : j ≠ i) : (genNext (a, i)).1.get j = a.get j :=
  Lfsr.get_set_other _ _ h

/-- The next byte is still there after GEN, so the overwritten one can be found again. -/
theorem genNext_injective : Function.Injective genNext := by
  rintro ⟨a, i⟩ ⟨b, j⟩ h
  obtain rfl : i = j := nextIndex_injective (congrArg Prod.snd h)
  have hget (k : BitVec 2) : (genNext (a, i)).1.get k = (genNext (b, i)).1.get k := by rw [h]
  have hother {k : BitVec 2} (hk : k ≠ i) : a.get k = b.get k := by
    rw [← genNext_get_other a hk, ← genNext_get_other b hk, hget]
  have hsame : a.get i = b.get i := by
    have hnew := hget i
    rw [genNext_get_same, genNext_get_same, hother (nextIndex_ne i)] at hnew
    exact feedback_left_injective hnew
  have hab : a = b := Lfsr.ext_get fun k => by
    by_cases hk : k = i
    · rw [hk, hsame]
    · exact hother hk
  rw [hab]

theorem genNext_surjective : Function.Surjective genNext := by
  rintro ⟨a, j⟩
  obtain ⟨i, rfl⟩ : ∃ i, nextIndex i = j := ⟨j - 1#2, BitVec.sub_add_cancel j 1#2⟩
  obtain ⟨c, hc⟩ := exists_feedback_eq (a.get (nextIndex i)) (a.get i)
  refine ⟨(a.set i c, i), Prod.ext (Lfsr.ext_get fun k => ?_) rfl⟩
  by_cases hk : k = i
  · rw [hk, genNext_get_same, Lfsr.get_set_same, Lfsr.get_set_other _ _ (nextIndex_ne i), hc]
  · rw [genNext_get_other _ hk, Lfsr.get_set_other _ _ hk]

/-! ### Linearity -/

theorem xorLfsr_get (a b : Lfsr) (i : BitVec 2) : (xorLfsr a b).get i = a.get i ^^^ b.get i := by
  unfold Lfsr.get
  generalize i.toFin = k
  match k with
  | 0 | 1 | 2 | 3 => rfl

/-- One GEN, at any index, is linear in the four bytes. -/
theorem genNext_xorLfsr (a b : Lfsr) (i : BitVec 2) :
    genNext (xorLfsr a b, i) = (xorLfsr (genNext (a, i)).1 (genNext (b, i)).1, nextIndex i) := by
  refine Prod.ext (Lfsr.ext_get fun k => ?_) rfl
  simp only [xorLfsr_get]
  by_cases hk : k = i
  · rw [hk, genNext_get_same, genNext_get_same, genNext_get_same, xorLfsr_get, xorLfsr_get, feedback_xor]
  · rw [genNext_get_other _ hk, genNext_get_other _ hk, genNext_get_other _ hk, xorLfsr_get]

theorem genNext_iterate_idx (n : Nat) (a : Lfsr) (i : BitVec 2) :
    (genNext^[n] (a, i)).2 = i + BitVec.ofNat 2 n := by
  induction n with
  | zero => simp
  | succ n ih =>
    rw [Function.iterate_succ_apply', BitVec.ofNat_add, ← BitVec.add_assoc, ← ih]
    rfl

/-- So is any number of GENs. -/
theorem genNext_iterate_xorLfsr (n : Nat) (a b : Lfsr) (i : BitVec 2) :
    (genNext^[n] (xorLfsr a b, i)).1 = xorLfsr (genNext^[n] (a, i)).1 (genNext^[n] (b, i)).1 := by
  induction n generalizing a b i with
  | zero => rfl
  | succ n ih =>
    rw [Function.iterate_succ_apply, genNext_xorLfsr, ih]
    rfl

/-! ### The LFSR state is never all zero (R108) -/

/-- GEN does not reach the all-zero state from another one: it leads there from itself. -/
theorem genNext_ne_zero {p : Lfsr × BitVec 2} (h : p.1 ≠ ⟨0#8, 0#8, 0#8, 0#8⟩) :
    (genNext p).1 ≠ ⟨0#8, 0#8, 0#8, 0#8⟩ := by
  intro hzero
  have hfix : genNext (⟨0#8, 0#8, 0#8, 0#8⟩, p.2) = (⟨0#8, 0#8, 0#8, 0#8⟩, nextIndex p.2) := by
    generalize p.2 = i
    revert i
    decide
  have heq : genNext p = genNext (⟨0#8, 0#8, 0#8, 0#8⟩, p.2) := hfix ▸ Prod.ext hzero rfl
  exact h (congrArg Prod.fst (genNext_injective heq))

/-! ### The bit stream (R110) -/

theorem genByte_add_four (s : State) (k : Nat) :
    genByte s (k + 4) = feedback (genByte s k) (genByte s (k + 1)) := by
  rw [genByte_add, genByte_four, ← genByte_add, ← genByte_add, Nat.add_zero]

/-- Bit `7 - j` of the window that starts `d` bits into two bytes is bit `j + d` of the two, counted from bit 7 of the
first. -/
theorem getLsbD_window (cur nxt : Byte) {d j : Nat} (hd : d ≤ 8) (hj : j < 8) :
    ((cur <<< d) ||| (nxt >>> (8 - d))).getLsbD (7 - j) =
      if j + d < 8 then cur.getLsbD (7 - (j + d)) else nxt.getLsbD (7 - (j + d - 8)) := by
  rw [BitVec.getLsbD_or, BitVec.getLsbD_shiftLeft, BitVec.getLsbD_ushiftRight]
  split_ifs with hjd
  · rw [BitVec.getLsbD_of_ge nxt (8 - d + (7 - j)) (by omega), show 7 - j - d = 7 - (j + d) by omega]
    simp [show 7 - j < 8 by omega, show ¬ 7 - j < d by omega]
  · rw [show 8 - d + (7 - j) = 7 - (j + d - 8) by omega]
    simp [show 7 - j < d by omega]

/-- `d` bits on in the stream is the window that starts `d` bits into the byte and its successor. -/
theorem genBit_add (s : State) (n : Nat) {d : Nat} (hd : d ≤ 8) :
    genBit s (n + d) =
      ((genByte s (n / 8) <<< d) ||| (genByte s (n / 8 + 1) >>> (8 - d))).getLsbD (7 - n % 8) := by
  have hj : n % 8 < 8 := Nat.mod_lt n (by decide)
  rw [getLsbD_window _ _ hd hj, genBit]
  split_ifs with hjd
  · rw [show (n + d) / 8 = n / 8 by omega, show (n + d) % 8 = n % 8 + d by omega]
  · by_cases hnext : n % 8 + d < 16
    · rw [show (n + d) / 8 = n / 8 + 1 by omega, show (n + d) % 8 = n % 8 + d - 8 by omega]
    · omega

end Sys2Proof.Safety

namespace Sys2Proof.Machine

/-! ### The comparator and the output lines -/

/-- The comparator as a comparison of numbers (R112). -/
theorem triggers_eq_decide (b : Byte) : triggers b = decide (250 < b.toNat) := rfl

/-- The two lines of the output are `EYES` (10_state.md R37). -/
theorem eyesLines_eq (s : State) : s.eyesLines = if s.eyes = true then 0b11#2 else 0b00#2 := by
  unfold State.eyesLines
  cases s.eyes <;> rfl

end Sys2Proof.Machine
end

section
/-! PROOFS. The laws of the Random Generator and its comparator (spec/40_random_generator.md), and the output ports that
show them (spec/10_state.md R37). -/

namespace Sys2Proof.Proofs

open Sys2Proof Sys2Proof.Machine Sys2Proof.Safety

/-- Settles O45: shifts are linear, and `L` is bijective as an injective map of a finite set into itself. -/
theorem feedbackIsLinear : Obligations.FeedbackIsLinear :=
  ⟨feedback_eq_feedL_xor_feedM, feedL_xor, feedM_xor, feedL_bijective⟩

/-- Settles O46, from the linearity and the bijectivity of one GEN at any index. -/
theorem genIsBijection : Obligations.GenIsBijection := by
  refine ⟨fun s t h => ?_, ⟨genNext_injective, genNext_surjective⟩,
    fun a b => ⟨genNext_iterate_xorLfsr 4 a b 0#2, genNext_iterate_idx 4 a 0#2⟩⟩
  rw [exec_gen] at h
  cases h
  rfl

/-- Settles O48: the byte four on is the exclusive or of four windows, 0, 2, 6 and 7 bits on. -/
theorem bitStreamRecurrence : Obligations.BitStreamRecurrence := by
  intro s n
  have hbyte : genBit s (n + 32) = (genByte s (n / 8 + 4)).getLsbD (7 - n % 8) := by
    rw [genBit, show (n + 32) / 8 = n / 8 + 4 by omega, show (n + 32) % 8 = n % 8 by omega]
  rw [hbyte, genByte_add_four, genBit_add s n (d := 2) (by decide), genBit_add s n (d := 6) (by decide),
    genBit_add s n (d := 7) (by decide)]
  simp only [feedback, BitVec.getLsbD_xor, genBit]

/-- Settles O49: no byte below 251 triggers, and the other five do. -/
theorem triggerAboveThreshold : Obligations.TriggerAboveThreshold := by
  refine ⟨fun s => triggers_eq_decide s.rand, fun s => ?_, ?_⟩
  · have hbyte := s.rand.isLt
    rw [State.trig, triggers_eq_decide, decide_eq_true_iff]
    omega
  · rw [show (256 : Nat) = 251 + 5 from rfl, List.range_add, List.countP_append]
    have hbelow : (List.range 251).countP (fun n => triggers (BitVec.ofNat 8 n)) = 0 := by
      simp only [List.countP_eq_zero, List.mem_range, triggers_eq_decide, decide_eq_true_iff, BitVec.toNat_ofNat]
      omega
    rw [hbelow]
    rfl

/-- Settles O54: `cmd_ready` is a conjunction of three register tests, and the two lines are `EYES` twice. -/
theorem outputPortsShowState : Obligations.OutputPortsShowState := by
  rintro s a o rfl
  refine ⟨?ready, rfl, rfl, ?lines, rfl, rfl, rfl, rfl, rfl, rfl⟩
  case ready => simp [State.outputs, State.cmdReady, State.canAccept, and_assoc]
  case lines => exact eyesLines_eq s

end Sys2Proof.Proofs
end

section
/-! What the events of a step say of its registers (spec/10_state.md R45, 40_random_generator.md R114): the output,
`RAND`, `S` and `IDX` change as the events that the step adds to the history say, and in no other way. -/

namespace Sys2Proof.Safety

open Sys2Proof Sys2Proof.Machine

/-- From `s` to `t` the events `l` are added to the history, and the output, `RAND` and the generator's state change as
these events say. -/
structure Follows (s t : State) (l : List Event) : Prop where
  history : t.history = s.history ++ l
  eyes : t.eyes = l.foldl eyesAfter s.eyes
  rand : t.rand = l.foldl randAfter s.rand
  generator : (t.lfsr, t.idx) = l.foldl generatorAfter (s.lfsr, s.idx)

section Compose

variable {s t u : State} {l m : List Event}

theorem Follows.refl (s : State) : Follows s s [] :=
  ⟨(List.append_nil _).symm, rfl, rfl, rfl⟩

theorem Follows.trans (hst : Follows s t l) (htu : Follows t u m) : Follows s u (l ++ m) where
  history := by rw [htu.history, hst.history, List.append_assoc]
  eyes := by rw [htu.eyes, hst.eyes, List.foldl_append]
  rand := by rw [htu.rand, hst.rand, List.foldl_append]
  generator := by rw [htu.generator, hst.generator, List.foldl_append]

/-- The output keeps the level of the last write. -/
theorem Follows.eyesInv (h : Follows s t l) (hs : EyesInv s) : EyesInv t := by
  rw [EyesInv, h.history, lastEyes_append, h.eyes, hs]

/-- The generator stays what the history determines. -/
theorem Follows.replayInv (h : Follows s t l) (hs : ReplayInv s) : ReplayInv t := by
  obtain ⟨hgenerator, hrand⟩ := hs
  refine ⟨?_, ?_⟩
  · rw [h.generator, h.history, replay_append, hgenerator]
  · rw [h.rand, h.history, lastGen_append, hrand]

end Compose

theorem generatorAfter_retire (p : Lfsr × BitVec 2) (w : CmdWord) :
    generatorAfter p (.retire w) = if w = encode .init then (seed, seedIndex) else p := rfl

/-- No event makes the LFSR state all zero: the seed is not, and GEN does not lead there (R108). -/
theorem generatorAfter_ne_zero {p : Lfsr × BitVec 2} (e : Event) (h : p.1 ≠ ⟨0#8, 0#8, 0#8, 0#8⟩) :
    (generatorAfter p e).1 ≠ ⟨0#8, 0#8, 0#8, 0#8⟩ := by
  have hseed : seed ≠ ⟨0#8, 0#8, 0#8, 0#8⟩ := by decide
  cases e with
  | reset => exact hseed
  | retire w =>
    rw [generatorAfter_retire]
    split_ifs
    · exact hseed
    · exact h
  | gen b => exact genNext_ne_zero h
  | accept w | eyesWrite v | waitReq ms | waitDone | fault c w => exact h

theorem foldl_generatorAfter_ne_zero (l : List Event) {p : Lfsr × BitVec 2} (h : p.1 ≠ ⟨0#8, 0#8, 0#8, 0#8⟩) :
    (l.foldl generatorAfter p).1 ≠ ⟨0#8, 0#8, 0#8, 0#8⟩ := by
  induction l generalizing p with
  | nil => exact h
  | cons e l ih => exact ih (generatorAfter_ne_zero e h)

theorem Follows.generatorInv {s t : State} {l : List Event} (h : Follows s t l) (hs : GeneratorInv s) :
    GeneratorInv t := by
  have hlfsr : t.lfsr = (l.foldl generatorAfter (s.lfsr, s.idx)).1 := congrArg Prod.fst h.generator
  rw [GeneratorInv, hlfsr]
  exact foldl_generatorAfter_ne_zero l hs

/-! ### The operations -/

theorem follows_accept (w : CmdWord) (s : State) : Follows s (s.emit (.accept w)) [Event.accept w] :=
  ⟨rfl, rfl, rfl, rfl⟩

theorem follows_raiseFault (c : Cause) (w : CmdWord) (s : State) : Follows s (s.raiseFault c w) [Event.fault c w] :=
  ⟨rfl, rfl, rfl, rfl⟩

/-- The retiring of a command other than INIT says nothing of these registers. -/
theorem follows_retire {w : CmdWord} (hw : w ≠ encode .init) (s : State) : Follows s (s.retire w) [Event.retire w] where
  history := retire_history w s
  eyes := retire_eyes w s
  rand := retire_rand w s
  generator := by
    rw [retire_lfsr, retire_idx, List.foldl_cons, List.foldl_nil, generatorAfter_retire, if_neg hw]

theorem encode_injective : Function.Injective encode := fun i j h => by
  simpa using (congrArg decode h)

/-- Phase A writes the output as its events say (R136). -/
theorem follows_fstepPhaseA (s : State) : ∃ l, Follows s (fstepPhaseA s) l := by
  rw [fstepPhaseA_eq]
  refine ⟨(if s.cnt = 0#4 then [Event.eyesWrite true] else []) ++
    (if s.cnt = s.dim then [Event.eyesWrite false] else []) ++ [Event.waitReq stepMs], ?_, ?_, ?_, ?_⟩
  · simp only [List.append_assoc]
  all_goals split_ifs <;> rfl

/-- Phase B writes the output when it ends the fade (R137). -/
theorem follows_fstepPhaseB (s : State) : ∃ l, Follows s (fstepPhaseB s) l := by
  rcases fstepPhaseB_cases s with ⟨_, h⟩ | ⟨_, _, _, h⟩ | ⟨_, _, _, h⟩ | ⟨_, _, _, h⟩ | ⟨_, _, _, h⟩ <;> rw [h]
  case inr.inl => exact ⟨[Event.eyesWrite true], rfl, rfl, rfl, rfl⟩
  all_goals exact ⟨[], (List.append_nil _).symm, rfl, rfl, rfl⟩

/-- Every command but INIT, which the replay reads from its `Retire`, changes these registers as its events say. -/
theorem follows_exec {i : Instr} {s t : State} (hi : i ≠ .init) (h : exec i s = .next t) :
    ∃ l, Follows s t l := by
  cases i with
  | init => exact absurd rfl hi
  | nop | fstart => cases h; exact ⟨[], (List.append_nil _).symm, rfl, rfl, rfl⟩
  | gen => cases h; exact ⟨[Event.gen s.curByte], rfl, rfl, rfl, rfl⟩
  | outh => cases h; exact ⟨[Event.eyesWrite true], rfl, rfl, rfl, rfl⟩
  | wait ms =>
    rw [exec_wait] at h
    cases h
    exact ⟨[Event.waitReq ms], rfl, rfl, rfl, rfl⟩
  | fstep =>
    cases ha : s.act
    · rw [exec_fstep_idle ha] at h
      cases h
      exact ⟨_, follows_raiseFault _ _ s⟩
    · rw [exec_fstep_active ha] at h
      cases h
      exact follows_fstepPhaseA s

/-- INIT and its `Retire` together load the seed. -/
theorem follows_init {s t : State} (h : exec .init s = .next t) :
    Follows s (t.retire (encode .init)) [Event.retire (encode .init)] := by
  rw [exec_init] at h
  cases h
  exact ⟨retire_history _ _, retire_eyes _ _, retire_rand _ _, by rw [retire_lfsr, retire_idx]; rfl⟩

/-! ### The steps -/

theorem follows_finishAccept {w : CmdWord} (hw : w ≠ encode .init) (s : State) :
    ∃ l, Follows s (finishAccept w s) l := by
  unfold finishAccept
  split
  · exact ⟨_, .refl s⟩
  · exact ⟨_, follows_retire hw s⟩

theorem follows_waitDoneStep (s : State) : ∃ l, Follows s (waitDoneStep s) l := by
  have hnot {i : Instr} (hi : i ≠ .init) : encode i ≠ encode .init := fun h => hi (encode_injective h)
  have hdone : Follows s { s with waitPend := false, history := s.history ++ [Event.waitDone] } [Event.waitDone] :=
    ⟨rfl, rfl, rfl, rfl⟩
  cases hc : s.cont with
  | wait =>
    rw [waitDoneStep_wait hc]
    exact ⟨_, hdone.trans (follows_retire (hnot (by simp)) _)⟩
  | fstep =>
    obtain ⟨l, hphase⟩ := follows_fstepPhaseB { s with waitPend := false, history := s.history ++ [Event.waitDone] }
    rw [waitDoneStep_fstep hc]
    exact ⟨_, (hdone.trans hphase).trans (follows_retire (hnot (i := .fstep) (by simp)) _)⟩

/-- Every step changes these registers as the events it adds say. -/
theorem follows_step {s t : State} (hstep : step s = .next t) : ∃ l, Follows s t l := by
  have hconsume : Follows s s.consume [] := ⟨(List.append_nil _).symm, rfl, rfl, rfl⟩
  rcases step_outcomes hstep with
    rfl | ⟨_, held, rfl⟩ | ⟨_, rfl⟩ | ⟨_, w, _, _, rfl⟩ | ⟨⟨_, hp, hf⟩, w, i, u, _, hi, hu, rfl⟩
  case inl => exact ⟨_, hconsume⟩
  case inr.inl => exact ⟨[Event.reset], rfl, rfl, rfl, rfl⟩
  case inr.inr.inl =>
    obtain ⟨l, hl⟩ := follows_waitDoneStep s.consume
    exact ⟨_, hconsume.trans hl⟩
  case inr.inr.inr.inl =>
    exact ⟨_, (hconsume.trans (follows_accept w _)).trans (follows_raiseFault _ w _)⟩
  case inr.inr.inr.inr =>
    obtain rfl : encode i = w := encode_of_decode hi
    have haccept := hconsume.trans (follows_accept (encode i) s.consume)
    by_cases hinit : i = .init
    · subst hinit
      obtain ⟨hp', hf'⟩ := exec_of_not_waits rfl hu
      rw [finishAccept_retire (hp'.trans hp) (hf'.trans hf)]
      exact ⟨_, haccept.trans (follows_init hu)⟩
    · obtain ⟨l, hl⟩ := follows_exec hinit hu
      obtain ⟨m, hm⟩ := follows_finishAccept (fun h => hinit (encode_injective h)) u
      exact ⟨_, (haccept.trans hl).trans hm⟩

end Sys2Proof.Safety
end

section
/-! PROOFS. The statements about the history and what it determines (spec/10_state.md R45, 40_random_generator.md R108,
R114). -/

namespace Sys2Proof.Proofs

open Sys2Proof Sys2Proof.Machine Sys2Proof.Safety

/-- Settles O30: a step adds events. -/
theorem historyOnlyGrows : Obligations.HistoryOnlyGrows := by
  intro s t hstep
  obtain ⟨l, hl⟩ := follows_step hstep
  exact ⟨l, hl.history.symm⟩

/-- Settles O40: `S` changes by the seed and by GEN only, which do not lead to the all-zero state. -/
theorem stepKeepsGeneratorNonzero : Obligations.StepKeepsGeneratorNonzero := by
  intro s t hs hstep
  obtain ⟨l, hl⟩ := follows_step hstep
  exact hl.generatorInv hs

/-- Settles O41: the output changes as the events say, and the two lines are the output. -/
theorem stepKeepsEyesLastWrite : Obligations.StepKeepsEyesLastWrite := by
  intro s t hs hstep
  obtain ⟨l, hl⟩ := follows_step hstep
  have ht : EyesInv t := hl.eyesInv hs
  exact ⟨ht, by rw [eyesLines_eq, ht]⟩

/-- Settles O42: the generator and `RAND` change as the events say. -/
theorem stepKeepsGeneratorReplay : Obligations.StepKeepsGeneratorReplay := by
  intro s t hs hstep
  obtain ⟨l, hl⟩ := follows_step hstep
  exact hl.replayInv hs

end Sys2Proof.Proofs
end

section
/-! The writers of the level and the phase (spec/10_state.md R29, R30), the fault record (60_exceptions.md R203, R204)
and the control loop of AUTO mode (41_blink_controller.md R168), by the kinds of step. -/

namespace Sys2Proof.Machine

open Sys2Proof Sys2Proof.Safety

/-! ### The level and the phase -/

/-- No command writes `DIM` (10_state.md R29). -/
theorem exec_dim {i : Instr} {s t : State} (h : exec i s = .next t) : t.dim = s.dim := by
  cases i with
  | nop | init | gen | outh | fstart | wait ms => cases h; rfl
  | fstep =>
    cases ha : s.act
    · rw [exec_fstep_idle ha] at h; cases h; rfl
    · rw [exec_fstep_active ha, fstepPhaseA_eq] at h; cases h; rfl

/-- Of the commands only FSTART writes `UP` (10_state.md R30). -/
theorem exec_up_cases {i : Instr} {s t : State} (h : exec i s = .next t) :
    t.up = s.up ∨ (i = .fstart ∧ t.up = false ∧ t.history = s.history) := by
  cases i with
  | nop | init | gen | outh | wait ms => cases h; exact .inl rfl
  | fstart => cases h; exact .inr ⟨rfl, rfl, rfl⟩
  | fstep =>
    cases ha : s.act
    · rw [exec_fstep_idle ha] at h; cases h; exact .inl rfl
    · rw [exec_fstep_active ha, fstepPhaseA_eq] at h; cases h; exact .inl rfl

/-- Phase B moves the level by one at most. -/
theorem fstepPhaseB_dim_cases (s : State) :
    (fstepPhaseB s).dim = s.dim ∨ (fstepPhaseB s).dim = s.dim + 1#4 ∨ (fstepPhaseB s).dim = s.dim - 1#4 := by
  rcases fstepPhaseB_cases s with ⟨_, h⟩ | ⟨_, _, _, h⟩ | ⟨_, _, _, h⟩ | ⟨_, _, _, h⟩ | ⟨_, _, _, h⟩ <;> rw [h]
  case inl => exact .inl rfl
  case inr.inl => exact .inr (.inl rfl)
  case inr.inr.inl => exact .inr (.inl rfl)
  case inr.inr.inr.inl => exact .inl rfl
  case inr.inr.inr.inr => exact .inr (.inr rfl)

/-- Phase B writes the phase at the turn only. -/
theorem fstepPhaseB_up_cases (s : State) :
    (fstepPhaseB s).up = s.up ∨
      ((fstepPhaseB s).up = true ∧ s.dim = 0#4 ∧ (fstepPhaseB s).cnt = extCount) := by
  rcases fstepPhaseB_cases s with ⟨_, h⟩ | ⟨_, _, _, h⟩ | ⟨_, _, _, h⟩ | ⟨_, _, hd, h⟩ | ⟨_, _, _, h⟩ <;> rw [h]
  case inr.inr.inr.inl => exact .inr ⟨rfl, hd, rfl⟩
  all_goals exact .inl rfl

/-- Phase B ends the fade at the level `DIM_MAX` only (R137). -/
theorem fstepPhaseB_act_cases (s : State) :
    (fstepPhaseB s).act = s.act ∨ ((fstepPhaseB s).act = false ∧ (fstepPhaseB s).dim = dimMax) := by
  rcases fstepPhaseB_cases s with ⟨_, h⟩ | ⟨_, _, hd, h⟩ | ⟨_, _, _, h⟩ | ⟨_, _, _, h⟩ | ⟨_, _, _, h⟩ <;> rw [h]
  case inr.inl => exact .inr ⟨rfl, hd⟩
  all_goals exact .inl rfl

theorem waitDoneStep_dim_cases (s : State) : (waitDoneStep s).dim = s.dim ∨
    (s.cont = .fstep ∧ ((waitDoneStep s).dim = s.dim + 1#4 ∨ (waitDoneStep s).dim = s.dim - 1#4)) := by
  cases hc : s.cont with
  | wait => exact .inl (by rw [waitDoneStep_wait hc, retire_dim])
  | fstep =>
    rw [waitDoneStep_fstep hc, retire_dim]
    exact (fstepPhaseB_dim_cases _).imp_right fun h => ⟨rfl, h⟩

theorem waitDoneStep_up_cases (s : State) : (waitDoneStep s).up = s.up ∨
    (s.cont = .fstep ∧ (waitDoneStep s).up = true ∧ s.dim = 0#4 ∧ (waitDoneStep s).cnt = 11#4) := by
  cases hc : s.cont with
  | wait => exact .inl (by rw [waitDoneStep_wait hc, retire_up])
  | fstep =>
    rw [waitDoneStep_fstep hc, retire_up, retire_cnt]
    exact (fstepPhaseB_up_cases _).imp_right fun h => ⟨rfl, h⟩

theorem waitDoneStep_act_cases (s : State) : (waitDoneStep s).act = s.act ∨
    ((waitDoneStep s).act = false ∧ (waitDoneStep s).dim = 10#4) := by
  cases hc : s.cont with
  | wait => exact .inl (by rw [waitDoneStep_wait hc, retire_act])
  | fstep =>
    rw [waitDoneStep_fstep hc, retire_act, retire_dim]
    exact fstepPhaseB_act_cases _

end Sys2Proof.Machine

namespace Sys2Proof.Safety

open Sys2Proof Sys2Proof.Machine

/-! ### The fault record -/

/-- A step that leaves the fault record keeps what it says, if it requests no wait in the fault state. -/
theorem faultInv_of_sameFault {s t : State} (hsame : SameFault s t) (hwait : s.fault = true → t.waitPend = false)
    (hs : FaultInv s) : FaultInv t := by
  obtain ⟨hfault, hcause, hfcmd⟩ := hsame
  obtain ⟨hclear, hset⟩ := hs
  rw [FaultInv, hfault, hcause, hfcmd]
  exact ⟨hclear, fun hf => ⟨(hset hf).1, hwait hf⟩⟩

/-- The fault entry leaves a record that says the fault, with no wait pending. -/
theorem faultInv_of_fault_entry {t : State} (hf : t.fault = true) (hc : t.cause ≠ .none) (hp : t.waitPend = false) :
    FaultInv t :=
  ⟨fun h => by simp [hf] at h, fun _ => ⟨hc, hp⟩⟩

/-! ### The control loop of AUTO mode (41_blink_controller.md R161 to R168) -/

theorem autoInv_resetStep (m : Mode) (s : State) : AutoInv (s.resetStep m) :=
  fun _ => ⟨rfl, by simp, fun _ => rfl, by simp⟩

/-- Only FSTART's retiring leads to SQ_FSTEP while no fade is active. -/
theorem nextSeq_ne_fstep {q : Seq} (hq : q ≠ .fstart) (trig : Bool) : nextSeq q trig false ≠ .fstep := by
  cases q with
  | fstart => exact absurd rfl hq
  | gen => cases trig <;> decide
  | boot0 | boot1 | fstep | settle => simp [nextSeq]

/-- A command other than FSTART that retires outside a fade leaves the sequencer outside it. -/
theorem autoInv_retire {u : State} (w : CmdWord) (hf : u.fault = false) (hact : u.act = false)
    (hq : u.seq ≠ .fstart) (hdim : u.dim = 10#4) (hp : u.waitPend = false) : AutoInv (u.retire w) := by
  intro hm
  have hseq : (u.retire w).seq ≠ .fstep := by
    rw [retire_seq, if_pos (by simpa using hm), hact]
    exact nextSeq_ne_fstep hq _
  exact ⟨by simp [hf], by simp [hact, hseq], fun _ => by simp [hdim], by simp [hp]⟩

/-- FSTART retires into the fade that it has begun. -/
theorem autoInv_retire_fstart {u : State} (w : CmdWord) (hf : u.fault = false) (hact : u.act = true)
    (hq : u.seq = .fstart) (hp : u.waitPend = false) : AutoInv (u.retire w) := by
  intro hm
  have hseq : (u.retire w).seq = .fstep := by
    rw [retire_seq, if_pos (by simpa using hm), hq, nextSeq]
  exact ⟨by simp [hf], by simp [hact, hseq], fun h => absurd hseq h, by simp [hp]⟩

/-- The end of the sequencer's own wait keeps the invariant: an FSTEP goes on while the fade is active, and the settle
wait goes on to GEN. -/
theorem autoInv_waitDoneStep {s : State} (hm : s.mode = .auto) (hp : s.waitPend = true) (hs : AutoInv s) :
    AutoInv (waitDoneStep s) := by
  obtain ⟨hfault, hact, hdim, hwait⟩ := hs hm
  rcases hwait hp with ⟨hq, hc⟩ | ⟨hq, hc, _⟩
  · rcases waitDoneStep_act_cases s with ha | ⟨ha, hd⟩
    · have hseq : (waitDoneStep s).seq = .fstep := by
        rw [waitDoneStep_seq_auto hm, hq, nextSeq, ha, if_pos (hact.mpr hq)]
      exact fun _ => ⟨(waitDoneStep_sameFault s).1.trans hfault, by simp [ha, hact, hq, hseq],
        fun h => absurd hseq h, by simp⟩
    · rw [waitDoneStep_fstep hc] at ha hd ⊢
      exact autoInv_retire _ (by simp [hfault]) (by simpa using ha) (by simp [hq]) (by simpa using hd) (by simp)
  · have ha : s.act = false := by simpa [hq] using hact
    rw [waitDoneStep_wait hc]
    exact autoInv_retire _ hfault ha (by simp [hq]) (hdim (by simp [hq])) rfl

/-- The accept step of the sequencer's command keeps the invariant. -/
theorem autoInv_step_of_ready {s t : State} (hr : Ready s) (hm : s.mode = .auto) (hs : AutoInv s)
    (hstep : step s = .next t) : AutoInv t := by
  obtain ⟨hfault, hact, hdim, _⟩ := hs hm
  have hp : s.waitPend = false := hr.2.1
  have hidle (hq : s.seq ≠ .fstep) : s.act = false ∧ s.dim = 10#4 := ⟨by simpa [hq] using hact, hdim hq⟩
  cases hq : s.seq with
  | boot0 =>
    obtain ⟨ha, hd⟩ := hidle (by simp [hq])
    cases (step_of_auto_retires (i := .init) hm hr (by rw [hq]; rfl) rfl (exec_init _)).symm.trans hstep
    exact autoInv_retire _ hfault ha (by simp [hq]) hd hp
  | boot1 =>
    obtain ⟨ha, hd⟩ := hidle (by simp [hq])
    cases (step_of_auto_retires (i := .outh) hm hr (by rw [hq]; rfl) rfl (exec_outh _)).symm.trans hstep
    exact autoInv_retire _ hfault ha (by simp [hq]) hd hp
  | gen =>
    obtain ⟨ha, hd⟩ := hidle (by simp [hq])
    cases (step_of_auto_retires (i := .gen) hm hr (by rw [hq]; rfl) rfl (exec_gen _)).symm.trans hstep
    exact autoInv_retire _ hfault ha (by simp [hq]) hd hp
  | fstart =>
    cases (step_of_auto_retires (i := .fstart) hm hr (by rw [hq]; rfl) rfl (exec_fstart _)).symm.trans hstep
    exact autoInv_retire_fstart _ hfault rfl hq hp
  | fstep =>
    cases (step_of_auto_waits (i := .fstep) hm hr (by rw [hq]; rfl) rfl
      (exec_fstep_active (hact.mpr hq))).symm.trans hstep
    rw [fstepPhaseA_eq]
    exact fun _ => ⟨hfault, hact, hdim, fun _ => .inl ⟨hq, rfl⟩⟩
  | settle =>
    cases (step_of_auto_waits (i := .wait settleMs) hm hr (by rw [hq]; rfl) rfl (exec_wait _ _)).symm.trans hstep
    exact fun _ => ⟨hfault, hact, hdim, fun _ => .inr ⟨hq, rfl, rfl⟩⟩

/-- A state of AUTO mode without a fault has a next state. -/
theorem exists_step_of_auto {s : State} (hm : s.mode = .auto) (hf : s.fault = false) : ∃ t, step s = .next t := by
  cases hrst : s.frame.rst <;> cases hheld : s.rstHeld
  case true.true => exact ⟨_, step_of_rst_held hrst hheld⟩
  case true.false => exact ⟨_, step_of_rst_asserted hrst hheld⟩
  case false.true => exact ⟨_, step_of_rst_released hrst hheld⟩
  case false.false =>
    cases hp : s.waitPend
    · obtain ⟨u, _, hstep⟩ := step_of_ready ⟨⟨hrst, hheld⟩, hp, hf⟩ (offered_auto hm)
      exact ⟨_, hstep⟩
    · cases hd : s.frame.waitDone
      · exact ⟨_, step_of_wait_goes_on ⟨hrst, hheld⟩ hf hp hd⟩
      · exact ⟨_, step_of_waitCompletes ⟨⟨hrst, hheld⟩, hf, hp, hd⟩⟩

end Sys2Proof.Safety
end

section
/-! PROOFS. The invariants of the fault record and of AUTO mode, and the writers of the level and the phase
(spec/10_state.md, 41_blink_controller.md, 60_exceptions.md). -/

namespace Sys2Proof.Proofs

open Sys2Proof Sys2Proof.Machine Sys2Proof.Safety

/-- Settles O43: each kind of step leaves the fault record or is the fault entry of a ready machine. -/
theorem stepKeepsFaultInv : Obligations.StepKeepsFaultInv := by
  intro s t hs hstep
  rcases step_outcomes hstep with
    rfl | ⟨_, held, rfl⟩ | ⟨_, rfl⟩ | ⟨⟨_, hp, _⟩, w, _, _, rfl⟩ | ⟨⟨_, hp, hf⟩, w, i, u, _, _, hu, rfl⟩
  case inl => exact hs
  case inr.inl => exact ⟨fun _ => ⟨rfl, rfl⟩, by simp⟩
  case inr.inr.inl =>
    exact faultInv_of_sameFault (s := s) (waitDoneStep_sameFault s.consume) (fun _ => waitDoneStep_waitPend _) hs
  case inr.inr.inr.inl => exact faultInv_of_fault_entry rfl (by simp) hp
  case inr.inr.inr.inr =>
    rcases exec_fault_cases hu with hsame | ⟨_, _, rfl⟩
    · have hu' : FaultInv u := faultInv_of_sameFault (s := s) hsame (fun hf' => by simp [hf] at hf') hs
      refine faultInv_of_sameFault (finishAccept_sameFault w u) (fun hf' => ?_) hu'
      rw [(finishAccept_sameWait w u).1]
      exact (hu'.2 hf').2
    · rw [finishAccept_stay (.inr rfl)]
      exact faultInv_of_fault_entry rfl (by simp) hp

/-- Settles O32: no command writes `DIM` and only FSTART writes `UP`; a wait-done step writes them in phase B. -/
theorem levelAndPhaseWriters : Obligations.LevelAndPhaseWriters := by
  intro s t hstep hr
  rcases step_outcomes hstep with
    rfl | ⟨hn, _⟩ | ⟨⟨_, _, hp, hd⟩, rfl⟩ | ⟨_, w, _, _, rfl⟩ | ⟨⟨_, hp, hf⟩, w, i, u, _, hi, hu, rfl⟩
  case inl => exact ⟨fun h => absurd rfl h, fun h => absurd rfl h⟩
  case inr.inl => exact absurd hr hn
  case inr.inr.inl =>
    refine ⟨fun h => ?_, fun h => .inr ?_⟩
    · obtain ⟨hc, hdim⟩ := (waitDoneStep_dim_cases s.consume).resolve_left h
      exact ⟨⟨hp, hc⟩, hd, hdim⟩
    · obtain ⟨hc, hup, hdim, hcnt⟩ := (waitDoneStep_up_cases s.consume).resolve_left h
      exact ⟨hup, ⟨hp, hc⟩, hd, hdim, hcnt⟩
  case inr.inr.inr.inl => exact ⟨fun h => absurd rfl h, fun h => absurd rfl h⟩
  case inr.inr.inr.inr =>
    obtain ⟨_, hdim, hup, _⟩ := finishAccept_sameFade w u
    refine ⟨fun h => absurd (hdim.trans (exec_dim hu)) h, fun h => .inl ?_⟩
    rw [hup] at h
    obtain ⟨rfl, hlow, hhistory⟩ := (exec_up_cases hu).resolve_left h
    obtain ⟨hp', hf'⟩ := exec_of_not_waits rfl hu
    obtain rfl : encode .fstart = w := encode_of_decode hi
    rw [finishAccept_retire (hp'.trans hp) (hf'.trans hf), retire_up, retire_history, hhistory, State.emit_history,
      List.append_assoc]
    exact ⟨hlow, rfl⟩

/-- Every kind of step keeps the invariant of AUTO mode; the sequencer offers no illegal word. -/
theorem step_keeps_autoInv {s t : State} (hs : AutoInv s) (hstep : step s = .next t) : AutoInv t := by
  rcases step_outcomes hstep with
    rfl | ⟨_, held, rfl⟩ | ⟨⟨_, _, hp, _⟩, rfl⟩ | ⟨_, w, ho, hw, rfl⟩ | ⟨hr, _⟩
  case inl => exact hs
  case inr.inl => exact autoInv_resetStep _ _
  case inr.inr.inl =>
    intro hm
    exact autoInv_waitDoneStep (s := s.consume) ((waitDoneStep_mode s.consume).symm.trans hm) hp hs hm
  case inr.inr.inr.inl =>
    intro hm
    rw [offered_auto (show s.mode = .auto from hm)] at ho
    cases ho
    simp [Decoded.isLegal] at hw
  case inr.inr.inr.inr =>
    intro hm
    exact autoInv_step_of_ready hr ((step_mode_of_noReset hstep hr.1).symm.trans hm) hs hstep hm

/-- Settles O38: the invariant is kept, and it rules out the fault state, the one that has no next state. -/
theorem autoNeverFaults : Obligations.AutoNeverFaults :=
  fun _ hs => ⟨fun _ => step_keeps_autoInv hs, fun hm => exists_step_of_auto hm (hs hm).1⟩

/-- Settles O44: the registers are the reset values, on which each invariant is a comparison of constants. -/
theorem resetMeetsInvariants : Obligations.ResetMeetsInvariants := by
  intro strap
  refine ⟨⟨rfl, rfl, rfl, rfl, rfl, rfl, rfl, rfl, rfl, rfl, rfl, rfl, rfl, rfl, rfl, rfl⟩, rfl, ?fade, ?generator,
    rfl, ⟨rfl, rfl⟩, ⟨fun _ => ⟨rfl, rfl⟩, ?faulted⟩, fun _ => rfl, fun _ => ⟨rfl, ?active, fun _ => rfl, ?waiting⟩⟩
  case fade => cases strap <;> decide
  case generator => cases strap <;> decide
  all_goals simp [State.resetWith]

end Sys2Proof.Proofs
end

section
/-! A whole fade (spec/41_blink_controller.md section 5): what each sub-step writes, the ten sub-steps of a cycle, the
cycles down to level 0, the turn, the cycles up, and the last one. -/

namespace Sys2Proof.Safety

open Sys2Proof Sys2Proof.Machine

/-! ### What a sub-step adds to the history -/

section SubStep

variable {s : State} (hact : s.act = true)
include hact

theorem fstepWait_history : (fstepWait s).history =
    s.history ++ [Event.accept (encode .fstep)] ++ (if s.cnt = 0#4 then [Event.eyesWrite true] else []) ++
      (if s.cnt = s.dim then [Event.eyesWrite false] else []) ++ [Event.waitReq stepMs] := by
  rw [fstepWait_eq_phaseA hact, fstepPhaseA_eq]
  rfl

theorem countWrites_true_fstepWait : countWrites true (fstepWait s).history =
    countWrites true s.history + if s.cnt = 0#4 then 1 else 0 := by
  rw [fstepWait_history hact]
  split_ifs <;> simp [countWrites]

theorem countWrites_false_fstepWait : countWrites false (fstepWait s).history =
    countWrites false s.history + if s.cnt = s.dim then 1 else 0 := by
  rw [fstepWait_history hact]
  split_ifs <;> simp [countWrites]

end SubStep

/-- A wait-done step records the end of the wait and the retiring, and between them the write that ends a fade. -/
theorem waitDoneStep_history_cases (s : State) :
    (waitDoneStep s).history = s.history ++ [Event.waitDone, .retire s.waitingWord] ∨
    (waitDoneStep s).history = s.history ++ [Event.waitDone, .eyesWrite true, .retire s.waitingWord] := by
  cases hc : s.cont with
  | wait => exact .inl (by simp [waitDoneStep_wait hc, State.waitingWord, hc])
  | fstep =>
    have hword : s.waitingWord = 0x0005#16 := by rw [State.waitingWord, hc]; rfl
    rw [waitDoneStep_fstep hc, retire_history, hword]
    rcases fstepPhaseB_cases { s with waitPend := false, history := s.history ++ [Event.waitDone] } with
      ⟨_, h⟩ | ⟨_, _, _, h⟩ | ⟨_, _, _, h⟩ | ⟨_, _, _, h⟩ | ⟨_, _, _, h⟩ <;> rw [h]
    case inr.inl => exact .inr (by simp)
    all_goals exact .inl (by simp)

/-! ### Runs of whole FSTEPs in an active fade -/

theorem fadeRun_add (s : State) (m n : Nat) : fadeRun s (m + n) = fadeRun (fadeRun s m) n := by
  rw [fadeRun, Nat.add_comm, Function.iterate_add_apply]
  rfl

/-- How many of the first `n` whole FSTEPs after `s` wait with the output high. -/
def litWaits (s : State) (n : Nat) : Nat := (List.range n).countP (fun k => (fstepWait (fadeRun s k)).eyes)

theorem litWaits_add (s : State) (m n : Nat) : litWaits s (m + n) = litWaits s m + litWaits (fadeRun s m) n := by
  simp only [litWaits, List.range_add, List.countP_append, List.countP_map, Function.comp_def, fadeRun_add]

/-- The fade is active before each of the `n` whole FSTEPs that lead from `s` to `t`; `lit` of their waits are lit, and
they write 1 to the output `ones` times and 0 `zeros` times. -/
structure FadesTo (s : State) (n : Nat) (t : State) (lit ones zeros : Nat) : Prop where
  run : fadeRun s n = t
  active : ∀ k < n, (fadeRun s k).act = true
  lit : litWaits s n = lit
  ones : countWrites true t.history = countWrites true s.history + ones
  zeros : countWrites false t.history = countWrites false s.history + zeros

section FadesTo

variable {s t u : State} {m n lit ones zeros lit' ones' zeros' : Nat}

theorem FadesTo.refl (s : State) : FadesTo s 0 s 0 0 0 :=
  ⟨rfl, fun k hk => absurd hk (Nat.not_lt_zero k), rfl, rfl, rfl⟩

theorem FadesTo.trans (hst : FadesTo s m t lit ones zeros) (htu : FadesTo t n u lit' ones' zeros') :
    FadesTo s (m + n) u (lit + lit') (ones + ones') (zeros + zeros') where
  run := by rw [fadeRun_add, hst.run, htu.run]
  active k hk := by
    rcases Nat.lt_or_ge k m with hkm | hmk
    · exact hst.active k hkm
    · obtain ⟨j, rfl⟩ := Nat.exists_eq_add_of_le hmk
      rw [fadeRun_add, hst.run]
      exact htu.active j (by omega)
  lit := by rw [litWaits_add, hst.run, hst.lit, htu.lit]
  ones := by rw [htu.ones, hst.ones, Nat.add_assoc]
  zeros := by rw [htu.zeros, hst.zeros, Nat.add_assoc]

theorem FadesTo.of_counts (h : FadesTo s n t lit ones zeros) (hlit : lit = lit') (hones : ones = ones')
    (hzeros : zeros = zeros') : FadesTo s n t lit' ones' zeros' :=
  hlit ▸ hones ▸ hzeros ▸ h

/-- One sub-step, with the writes of its wait-done step. -/
theorem FadesTo.one_step (hact : s.act = true)
    (hones : countWrites true (fadeStep s).history = countWrites true (fstepWait s).history + ones)
    (hzeros : countWrites false (fadeStep s).history = countWrites false (fstepWait s).history) :
    FadesTo s 1 (fadeStep s) (if (fstepWait s).eyes = true then 1 else 0) ((if s.cnt = 0#4 then 1 else 0) + ones)
      (if s.cnt = s.dim then 1 else 0) where
  run := rfl
  active k hk := by
    obtain rfl : k = 0 := by omega
    exact hact
  lit := by
    rw [litWaits]
    cases h : (fstepWait s).eyes <;> simp [h]
  ones := by rw [hones, countWrites_true_fstepWait hact, Nat.add_assoc]
  zeros := by rw [hzeros, countWrites_false_fstepWait hact]

end FadesTo

/-! ### One cycle (R142) -/

section Cycle

variable {d : Nibble} {up : Bool} {k : Nat} {t : State}

/-- What a sub-step of a cycle counts; `ones` is 1 for the write that ends the fade. -/
theorem BeforeSubStep.fadesTo_one_step (h : BeforeSubStep d up k t) (hk : k < 10) {ones : Nat}
    (hones : countWrites true (Safety.fadeStep t).history = countWrites true (fstepWait t).history + ones)
    (hzeros : countWrites false (Safety.fadeStep t).history = countWrites false (fstepWait t).history) :
    FadesTo t 1 (Safety.fadeStep t) (if k < d.toNat then 1 else 0) ((if k = 0 then 1 else 0) + ones)
      (if k = d.toNat then 1 else 0) := by
  have hstep := FadesTo.one_step h.act hones hzeros
  have hcnt := h.cnt_toNat hk
  have hzero : t.cnt = 0#4 ↔ k = 0 := by rw [← BitVec.toNat_inj, hcnt]; rfl
  have hlevel : t.cnt = t.dim ↔ k = d.toNat := by rw [← BitVec.toNat_inj, hcnt, h.dim]
  simpa only [h.fstepWait_eyes hk, decide_eq_true_eq, hzero, hlevel] using hstep

/-- A wait-done step that does not end the fade writes no output. -/
theorem countWrites_of_no_write {s u : State} (h : u.history = s.history ++ [Event.waitDone, .retire 0x0005#16])
    (v : Bool) : countWrites v u.history = countWrites v s.history := by
  rw [h, countWrites_append]
  rfl

/-- The sub-steps of a cycle before the tenth: the first writes 1, the one at the level writes 0, and those below it
wait lit. -/
theorem BeforeSubStep.fadesTo_last (h : BeforeSubStep d up 0 t) (hk : k < 10) :
    FadesTo t k (fadeRun t k) (min k d.toNat) (min k 1) (if d.toNat < k then 1 else 0) ∧
      BeforeSubStep d up k (fadeRun t k) := by
  induction k with
  | zero => exact ⟨by simpa using FadesTo.refl t, h⟩
  | succ k ih =>
    obtain ⟨hsofar, hbefore⟩ := ih (by omega)
    have hhistory : (Safety.fadeStep (fadeRun t k)).history =
        (fstepWait (fadeRun t k)).history ++ [Event.waitDone, .retire 0x0005#16] := by
      have hlt : (fstepWait (fadeRun t k)).cnt < cycleLen := by
        rw [fstepWait_cnt hbefore.act, hbefore.cnt, cycleLen]
        bv_omega
      rw [Safety.fadeStep, waitDoneStep_within_cycle (fstepWait_cont hbefore.act) hlt]
      simp
    have hnext := hsofar.trans (hbefore.fadesTo_one_step (by omega) (ones := 0)
      (countWrites_of_no_write hhistory true) (countWrites_of_no_write hhistory false))
    rw [fadeRun_succ]
    exact ⟨hnext.of_counts (by split_ifs <;> omega) (by split_ifs <;> omega) (by split_ifs <;> omega),
      hbefore.fadeStep (by omega)⟩

end Cycle

/-! ### The end of a cycle (R137) -/

/-- An FSTEP of an active fade waits at the end of a cycle at level `d`, on the way up or not. -/
structure AtCycleEnd (d : Nibble) (up : Bool) (s : State) : Prop where
  act : s.act = true
  cont : s.cont = .fstep
  cnt : cycleLen ≤ s.cnt
  dim : s.dim = d
  up : s.up = up

/-- The fade stands before the one sub-step of the extended cycle, with the output low. -/
structure InExtendedCycle (s : State) : Prop where
  act : s.act = true
  cnt : s.cnt = 11#4
  dim : s.dim = 0#4
  up : s.up = true
  eyes : s.eyes = false

/-- The fade has ended: the level is 10 and the output high (R146). -/
structure FadeEnded (s : State) : Prop where
  act : s.act = false
  dim : s.dim = 10#4
  cnt : s.cnt = 0#4
  up : s.up = true
  eyes : s.eyes = true

section CycleEnd

variable {d : Nibble} {up : Bool} {s t : State}

/-- The tenth sub-step waits at the end of its cycle. -/
theorem BeforeSubStep.atCycleEnd (h : BeforeSubStep d up 9 t) : AtCycleEnd d up (fstepWait t) where
  act := fstepWait_act h.act
  cont := fstepWait_cont h.act
  cnt := by rw [fstepWait_cnt h.act, h.cnt]; decide
  dim := (fstepWait_dim h.act).trans h.dim
  up := (fstepWait_up h.act).trans h.up

theorem AtCycleEnd.moves_down (h : AtCycleEnd d false s) (hd : d ≠ 0#4) :
    BeforeSubStep (d - 1#4) false 0 (waitDoneStep s) ∧
      (waitDoneStep s).history = s.history ++ [Event.waitDone, .retire 0x0005#16] := by
  rw [waitDoneStep_moves_down h.cont h.cnt h.up (by rwa [h.dim])]
  exact ⟨⟨by simp [h.act], by simp, by simp [h.dim], by simp [h.up], fun hk => absurd hk (Nat.lt_irrefl 0)⟩, by simp⟩

theorem AtCycleEnd.moves_up (h : AtCycleEnd d true s) (hd : d + 1#4 ≠ dimMax) :
    BeforeSubStep (d + 1#4) true 0 (waitDoneStep s) ∧
      (waitDoneStep s).history = s.history ++ [Event.waitDone, .retire 0x0005#16] := by
  rw [waitDoneStep_moves_up h.cont h.cnt h.up (by rwa [h.dim])]
  exact ⟨⟨by simp [h.act], by simp, by simp [h.dim], by simp [h.up], fun hk => absurd hk (Nat.lt_irrefl 0)⟩, by simp⟩

theorem AtCycleEnd.ends_fade (h : AtCycleEnd 9#4 true s) :
    FadeEnded (waitDoneStep s) ∧
      (waitDoneStep s).history = s.history ++ [Event.waitDone, .eyesWrite true, .retire 0x0005#16] := by
  rw [waitDoneStep_ends_fade h.cont h.cnt h.up (by rw [h.dim]; rfl)]
  exact ⟨⟨by simp, by simp [dimMax], by simp, by simp [h.up], by simp⟩, by simp⟩

/-- The turn starts the extended cycle. -/
theorem AtCycleEnd.turns (h : AtCycleEnd 0#4 false s) (heyes : s.eyes = false) :
    InExtendedCycle (waitDoneStep s) ∧
      (waitDoneStep s).history = s.history ++ [Event.waitDone, .retire 0x0005#16] := by
  rw [waitDoneStep_turns h.cont h.cnt h.up h.dim]
  exact ⟨⟨by simp [h.act], by simp [extCount], by simp [h.dim], by simp, by simp [heyes]⟩, by simp⟩

/-- The one sub-step of the extended cycle waits at its end. -/
theorem InExtendedCycle.atCycleEnd (h : InExtendedCycle t) : AtCycleEnd 0#4 true (fstepWait t) where
  act := fstepWait_act h.act
  cont := fstepWait_cont h.act
  cnt := by rw [fstepWait_cnt h.act, h.cnt]; decide
  dim := (fstepWait_dim h.act).trans h.dim
  up := (fstepWait_up h.act).trans h.up

theorem InExtendedCycle.fadeStep (h : InExtendedCycle t) : BeforeSubStep 1#4 true 0 (fadeStep t) :=
  (h.atCycleEnd.moves_up (by decide)).1

/-- It waits dark and writes nothing (R141, R142). -/
theorem InExtendedCycle.fadesTo_one_step (h : InExtendedCycle t) : FadesTo t 1 (Safety.fadeStep t) 0 0 0 := by
  have hhistory := (h.atCycleEnd.moves_up (by decide)).2
  have hstep := FadesTo.one_step h.act (ones := 0) (countWrites_of_no_write hhistory true)
    (countWrites_of_no_write hhistory false)
  simpa [fstepWait_eyes h.act, h.cnt, h.dim, h.eyes] using hstep

/-- A whole cycle at level `d`: `d` of its ten waits are lit, and it writes 1 once and, below level 10, 0 once, but for
the write that ends the fade. -/
theorem BeforeSubStep.fadesTo_cycle (h : BeforeSubStep d up 0 t) (hd : d ≤ 10#4) {ones : Nat}
    (hones : countWrites true (fadeRun t 10).history = countWrites true (fstepWait (fadeRun t 9)).history + ones)
    (hzeros : countWrites false (fadeRun t 10).history = countWrites false (fstepWait (fadeRun t 9)).history) :
    FadesTo t 10 (fadeRun t 10) d.toNat (1 + ones) (if d.toNat < 10 then 1 else 0) := by
  obtain ⟨hnine, hlast⟩ := h.fadesTo_last (k := 9) (by decide)
  rw [fadeRun_succ] at hones hzeros ⊢
  have hd' : d.toNat ≤ 10 := hd
  have hten := hnine.trans (hlast.fadesTo_one_step (by decide) hones hzeros)
  exact hten.of_counts (by split_ifs <;> omega) (by rw [if_neg (by decide)]; omega) (by split_ifs <;> omega)

/-- A cycle on the way down to the next lower level. -/
theorem BeforeSubStep.cycle_down (h : BeforeSubStep d false 0 t) (hd : d ≤ 10#4) (hd0 : d ≠ 0#4) :
    FadesTo t 10 (fadeRun t 10) d.toNat 1 (if d.toNat < 10 then 1 else 0) ∧
      BeforeSubStep (d - 1#4) false 0 (fadeRun t 10) := by
  obtain ⟨_, hlast⟩ := h.fadesTo_last (k := 9) (by decide)
  obtain ⟨hnext, hhistory⟩ := hlast.atCycleEnd.moves_down hd0
  exact ⟨h.fadesTo_cycle hd (ones := 0) (countWrites_of_no_write hhistory true)
    (countWrites_of_no_write hhistory false), hnext⟩

/-- A cycle on the way up to the next higher level. -/
theorem BeforeSubStep.cycle_up (h : BeforeSubStep d true 0 t) (hd : d < 9#4) :
    FadesTo t 10 (fadeRun t 10) d.toNat 1 1 ∧ BeforeSubStep (d + 1#4) true 0 (fadeRun t 10) := by
  obtain ⟨_, hlast⟩ := h.fadesTo_last (k := 9) (by decide)
  obtain ⟨hnext, hhistory⟩ := hlast.atCycleEnd.moves_up (by unfold dimMax; bv_omega)
  have hcycle := h.fadesTo_cycle (by bv_omega) (ones := 0) (countWrites_of_no_write hhistory true)
    (countWrites_of_no_write hhistory false)
  rw [if_pos (by bv_omega)] at hcycle
  exact ⟨hcycle, hnext⟩

/-- The cycle at level 9 on the way up ends the fade. -/
theorem BeforeSubStep.cycle_last (h : BeforeSubStep 9#4 true 0 t) :
    FadesTo t 10 (fadeRun t 10) 9 2 1 ∧ FadeEnded (fadeRun t 10) := by
  obtain ⟨_, hlast⟩ := h.fadesTo_last (k := 9) (by decide)
  obtain ⟨hended, hhistory⟩ := hlast.atCycleEnd.ends_fade
  have hwrites (v : Bool) : countWrites v (fadeRun t 10).history =
      countWrites v (fstepWait (fadeRun t 9)).history +
        countWrites v [Event.waitDone, .eyesWrite true, .retire 0x0005#16] := by
    rw [← countWrites_append, ← hhistory]
    rfl
  exact ⟨h.fadesTo_cycle (by decide) (hwrites true) (hwrites false), hended⟩

/-- The cycle at level 0 and the one sub-step of the extended cycle. -/
theorem BeforeSubStep.cycle_turn (h : BeforeSubStep 0#4 false 0 t) :
    FadesTo t 11 (fadeRun t 11) 0 1 1 ∧ BeforeSubStep 1#4 true 0 (fadeRun t 11) := by
  obtain ⟨_, hlast⟩ := h.fadesTo_last (k := 9) (by decide)
  obtain ⟨hextended, hhistory⟩ := hlast.atCycleEnd.turns (by simp [hlast.fstepWait_eyes])
  have hcycle := h.fadesTo_cycle (by decide) (ones := 0) (countWrites_of_no_write hhistory true)
    (countWrites_of_no_write hhistory false)
  rw [fadeRun_succ t 10]
  exact ⟨hcycle.trans hextended.fadesTo_one_step, hextended.fadeStep⟩

end CycleEnd

/-! ### The whole fade (R143, R144) -/

section WholeFade

variable {n : Nat} {t : State}

theorem levelBits_toNat (hn : n ≤ 10) : (BitVec.ofNat 4 n).toNat = n := by
  rw [BitVec.toNat_ofNat]
  omega

/-- The cycles from level `n` down to level 0, whose levels `n` to 1 are lit in sum. -/
theorem exists_fadesTo_level_zero (hn : n ≤ 10) (h : BeforeSubStep (BitVec.ofNat 4 n) false 0 t) :
    ∃ u, FadesTo t (10 * n) u (∑ i ∈ Finset.range (n + 1), i) n (min n 9) ∧ BeforeSubStep 0#4 false 0 u := by
  induction n generalizing t with
  | zero => exact ⟨t, .refl t, h⟩
  | succ n ih =>
    have hlevel := levelBits_toNat hn
    obtain ⟨hcycle, hnext⟩ := h.cycle_down (by bv_omega) (by bv_omega)
    have hdown : BitVec.ofNat 4 (n + 1) - 1#4 = BitVec.ofNat 4 n := by bv_omega
    rw [hdown] at hnext
    obtain ⟨u, hu, hzero⟩ := ih (by omega) hnext
    have hrun := hcycle.trans hu
    rw [hlevel, show 10 + 10 * n = 10 * (n + 1) by omega] at hrun
    refine ⟨u, hrun.of_counts ?_ (by omega) (by split_ifs <;> omega), hzero⟩
    rw [Finset.sum_range_succ _ (n + 1), Nat.add_comm]

/-- The cycles from level 1 up to level `n + 1`, whose levels 1 to `n` are lit in sum. -/
theorem exists_fadesTo_level_succ (hn : n ≤ 8) (h : BeforeSubStep 1#4 true 0 t) :
    ∃ u, FadesTo t (10 * n) u (∑ i ∈ Finset.range (n + 1), i) n n ∧
      BeforeSubStep (BitVec.ofNat 4 (n + 1)) true 0 u := by
  induction n with
  | zero => exact ⟨t, .refl t, h⟩
  | succ n ih =>
    obtain ⟨u, hu, hlevel⟩ := ih (by omega)
    obtain ⟨hcycle, hnext⟩ := hlevel.cycle_up (by bv_omega)
    have hrun := hu.trans hcycle
    rw [levelBits_toNat (by omega), ← Finset.sum_range_succ, ← Nat.mul_succ] at hrun
    rw [BitVec.ofNat_add]
    exact ⟨_, hrun, hnext⟩

/-- The whole fade from level `n`: down, the turn, up, and the last cycle. -/
theorem exists_fadesTo_fadeEnded (hn : n ≤ 10) (h : BeforeSubStep (BitVec.ofNat 4 n) false 0 t) :
    ∃ u, FadesTo t (10 * n + 101) u ((∑ i ∈ Finset.range (n + 1), i) + 45) (n + 11) (min n 9 + 10) ∧
      FadeEnded u := by
  obtain ⟨u₁, hdown, hzero⟩ := exists_fadesTo_level_zero hn h
  obtain ⟨hturn, hone⟩ := hzero.cycle_turn
  obtain ⟨u₂, hup, hnine⟩ := exists_fadesTo_level_succ (n := 8) (by decide) hone
  obtain ⟨hlast, hended⟩ := hnine.cycle_last
  exact ⟨_, hdown.trans (hturn.trans (hup.trans hlast)), hended⟩

end WholeFade

/-- FSTART enters the fade before the first sub-step of a cycle on the way down (R133). -/
theorem beforeSubStep_of_fstart {s t : State} (h : exec .fstart s = .next t) : BeforeSubStep s.dim false 0 t := by
  rw [exec_fstart] at h
  cases h
  exact ⟨rfl, rfl, rfl, rfl, fun hk => absurd hk (Nat.lt_irrefl 0)⟩

/-- A fade entered by FSTART runs to its end. -/
theorem exists_fadesTo_of_fstart {s t : State} (hdim : s.dim ≤ 10#4) (h : exec .fstart s = .next t) :
    ∃ u, FadesTo t (10 * s.dim.toNat + 101) u ((∑ i ∈ Finset.range (s.dim.toNat + 1), i) + 45) (s.dim.toNat + 11)
      (min s.dim.toNat 9 + 10) ∧ FadeEnded u := by
  have hbits : BitVec.ofNat 4 s.dim.toNat = s.dim := by bv_omega
  exact exists_fadesTo_fadeEnded hdim (hbits.symm ▸ beforeSubStep_of_fstart h)

/-! ### What a history counts for the control loop (R169) -/

/-- Of a history: the GENs, FSTARTs, FSTEPs and WAITs of 100 ms accepted, and the milliseconds requested. -/
def loopCounts (h : List Event) : Nat × Nat × Nat × Nat × Nat :=
  (countAccepts 0x0002#16 h, countAccepts 0x0004#16 h, countAccepts 0x0005#16 h, countAccepts 0x6406#16 h,
    nominalWait h)

theorem loopCounts_append (h l : List Event) : loopCounts (h ++ l) = loopCounts h + loopCounts l := by
  simp only [loopCounts, countAccepts_append, nominalWait_append]
  rfl

/-- The end of a wait accepts and requests nothing. -/
theorem loopCounts_waitDoneStep (s : State) : loopCounts (waitDoneStep s).history = loopCounts s.history := by
  rcases waitDoneStep_history_cases s with h | h <;> rw [h, loopCounts_append] <;> rfl

/-- A whole FSTEP accepts one FSTEP and requests 2 ms. -/
theorem loopCounts_fadeStep {s : State} (hact : s.act = true) :
    loopCounts (fadeStep s).history = loopCounts s.history + (0, 0, 1, 0, 2) := by
  rw [fadeStep, loopCounts_waitDoneStep, fstepWait_history hact]
  simp only [loopCounts_append]
  split_ifs <;> rfl

theorem loopCounts_fadeRun {s : State} {n : Nat} (hact : ∀ k < n, (fadeRun s k).act = true) :
    loopCounts (fadeRun s n).history = loopCounts s.history + (0, 0, n, 0, 2 * n) := by
  induction n with
  | zero => rfl
  | succ n ih =>
    rw [fadeRun_succ, loopCounts_fadeStep (hact n n.lt_succ_self), ih fun k hk => hact k (Nat.lt_succ_of_lt hk),
      add_assoc]
    rfl

end Sys2Proof.Safety
end

section
/-! PROOFS. The length and the counts of a fade (spec/41_blink_controller.md R143, R144, R146). -/

namespace Sys2Proof.Proofs

open Sys2Proof Sys2Proof.Machine Sys2Proof.Safety

/-- Settles O50: the cycles of the fade add up, and the fade is active before each of their sub-steps. -/
theorem fadeLengthFromAnyLevel : Obligations.FadeLengthFromAnyLevel := by
  intro s t hdim h
  obtain ⟨u, hrun, hended⟩ := exists_fadesTo_of_fstart hdim h
  refine ⟨hrun.active, ?_⟩
  rintro _ rfl
  rw [hrun.run]
  exact ⟨hended.act, hended.dim, hended.cnt, hended.up, hended.eyes⟩

/-- Settles O51: the counts of the cycles, for the levels 10 to 0 and 1 to 9. -/
theorem fullFadeCounts : Obligations.FullFadeCounts := by
  intro s t u hdim h hu
  have hlevel : s.dim.toNat = 10 := by rw [hdim]; rfl
  obtain ⟨v, hrun, hended⟩ := exists_fadesTo_of_fstart (by rw [hdim]; decide) h
  rw [hlevel] at hrun
  obtain rfl : v = u := hrun.run.symm.trans hu.symm
  have hhistory : t.history = s.history := by
    rw [exec_fstart] at h
    cases h
    rfl
  have hcounts := loopCounts_fadeRun hrun.active
  rw [hrun.run, hhistory] at hcounts
  exact ⟨hrun.active, hended.act, hrun.lit, hhistory ▸ hrun.ones, hhistory ▸ hrun.zeros,
    congrArg (fun c => c.2.2.2.2) hcounts⟩

end Sys2Proof.Proofs
end

section
/-! One pass of the control loop of AUTO mode (spec/41_blink_controller.md R161 to R169), with the waits completed as
soon as they are requested. -/

namespace Sys2Proof.Machine

open Sys2Proof Sys2Proof.Safety

/-- AUTO mode at a command boundary, without a reset or a fault, and with nothing scheduled on the ports. -/
structure LoopIdle (s : State) : Prop where
  mode : s.mode = .auto
  inputs : s.inputs = []
  rstHeld : s.rstHeld = false
  waitPend : s.waitPend = false
  fault : s.fault = false

theorem consume_of_inputs_nil {s : State} (h : s.inputs = []) : s.consume = s := by
  rw [State.consume, h, List.tail_nil, ← h]

theorem frame_of_inputs_nil {s : State} (h : s.inputs = []) : s.frame = s.quietFrame := by
  rw [State.frame, h]

/-- The comparator decides where the loop goes after GEN (R112, R164). -/
theorem nextSeq_gen_triggers (b : Byte) (act : Bool) :
    nextSeq .gen (triggers b) act = if 250#8 < b then .fstart else .settle :=
  if_congr decide_eq_true_iff rfl rfl

section LoopIdle

variable {s u : State}

theorem LoopIdle.ready (h : LoopIdle s) : Ready s :=
  ⟨⟨by rw [frame_of_inputs_nil h.inputs]; rfl, h.rstHeld⟩, h.waitPend, h.fault⟩

/-- The loop is idle again where the same fields hold their values. -/
theorem LoopIdle.of_eq (h : LoopIdle s) (hmode : u.mode = s.mode) (hinputs : u.inputs = s.inputs)
    (hheld : u.rstHeld = s.rstHeld) (hwait : u.waitPend = false) (hfault : u.fault = s.fault) : LoopIdle u :=
  ⟨hmode.trans h.mode, hinputs.trans h.inputs, hheld.trans h.rstHeld, hwait, hfault.trans h.fault⟩

/-- A command that does not wait is accepted and retired in one step. -/
theorem LoopIdle.step_retires (h : LoopIdle s) {i : Instr} (hi : seqCommand s.seq = i) (hw : i.waits = false)
    (hu : exec i (s.emit (.accept (encode i))) = .next u) : step s = .next (u.retire (encode i)) :=
  step_of_auto_retires h.mode h.ready hi hw (by rwa [consume_of_inputs_nil h.inputs])

/-- A command that waits takes two steps: the environment completes the wait in the step after its request. -/
theorem LoopIdle.run_two_of_waits (h : LoopIdle s) {i : Instr} (hi : seqCommand s.seq = i) (hw : i.waits = true)
    (hu : exec i (s.emit (.accept (encode i))) = .next u) (hinputs : u.inputs = []) (hheld : u.rstHeld = false)
    (hp : u.waitPend = true) (hf : u.fault = false) : Sys2Proof.core.run 2 s = .next (waitDoneStep u) := by
  have haccept : step s = .next u :=
    step_of_auto_waits h.mode h.ready hi hw (by rwa [consume_of_inputs_nil h.inputs])
  have hframe : u.frame = u.quietFrame := frame_of_inputs_nil hinputs
  have hdone : step u = .next (waitDoneStep u) := by
    have hcompletes : WaitCompletes u := ⟨⟨by rw [hframe]; rfl, hheld⟩, hf, hp, by rw [hframe]; exact hp⟩
    rw [step_of_waitCompletes hcompletes, consume_of_inputs_nil hinputs]
  rw [run_succ_of_step haccept, run_succ_of_step hdone, run_zero]

/-- The end of a wait leaves the loop idle. -/
theorem loopIdle_waitDoneStep (hm : s.mode = .auto) (hi : s.inputs = []) (hheld : s.rstHeld = false)
    (hf : s.fault = false) : LoopIdle (waitDoneStep s) := by
  obtain ⟨hinputs, hrst, _⟩ := waitDoneStep_sameEnvironment s
  exact ⟨(waitDoneStep_mode s).trans hm, hinputs.trans hi, hrst.trans hheld, waitDoneStep_waitPend s,
    (waitDoneStep_sameFault s).1.trans hf⟩

/-- SQ_GEN: one step, and the byte it returns decides where the loop goes (R164). -/
theorem LoopIdle.step_gen (h : LoopIdle s) (hq : s.seq = .gen) : ∃ t, step s = .next t ∧ LoopIdle t ∧
    t.seq = (if 250#8 < s.curByte then .fstart else .settle) ∧ t.dim = s.dim ∧
    loopCounts t.history = loopCounts s.history + (1, 0, 0, 0, 0) := by
  refine ⟨_, h.step_retires (i := .gen) (by rw [hq]; rfl) rfl (exec_gen _), ?idle, ?seq, ?dim, ?counts⟩
  case idle => exact h.of_eq (by simp) (by simp) (by simp) (by simp [h.waitPend]) (by simp)
  case seq =>
    rw [retire_seq, ← nextSeq_gen_triggers s.curByte s.act, ← hq]
    exact if_pos h.mode
  case dim => simp
  case counts =>
    simp only [retire_history, State.emit_history, loopCounts_append, add_assoc]
    rfl

/-- SQ_FSTART: one step into the fade (R165). -/
theorem LoopIdle.step_fstart (h : LoopIdle s) (hq : s.seq = .fstart) : ∃ t, step s = .next t ∧ LoopIdle t ∧
    t.seq = .fstep ∧ BeforeSubStep s.dim false 0 t ∧
    loopCounts t.history = loopCounts s.history + (0, 1, 0, 0, 0) := by
  refine ⟨_, h.step_retires (i := .fstart) (by rw [hq]; rfl) rfl (exec_fstart _), ?idle, ?seq, ?fade, ?counts⟩
  case idle => exact h.of_eq (by simp) (by simp) (by simp) (by simp [h.waitPend]) (by simp)
  case seq => simp [retire_seq, h.mode, hq, nextSeq]
  case fade => exact ⟨by simp, by simp, by simp, by simp, fun hk => absurd hk (Nat.lt_irrefl 0)⟩
  case counts =>
    simp only [retire_history, State.emit_history, loopCounts_append, add_assoc]
    rfl

/-- SQ_FSTEP: two steps are one whole FSTEP, and the loop stays while the fade is active (R166). -/
theorem LoopIdle.run_fadeStep (h : LoopIdle s) (hq : s.seq = .fstep) (hact : s.act = true) :
    Sys2Proof.core.run 2 s = .next (fadeStep s) ∧ LoopIdle (fadeStep s) ∧
      (fadeStep s).seq = if (fadeStep s).act then .fstep else .settle := by
  have hwait : fstepWait s = fstepPhaseA (s.emit (.accept (encode .fstep))) := fstepWait_eq_phaseA hact
  have hmode : (fstepWait s).mode = .auto := by rw [hwait, fstepPhaseA_eq]; exact h.mode
  have hinputs : (fstepWait s).inputs = [] := by rw [hwait, fstepPhaseA_eq]; exact h.inputs
  have hheld : (fstepWait s).rstHeld = false := by rw [hwait, fstepPhaseA_eq]; exact h.rstHeld
  have hfault : (fstepWait s).fault = false := by rw [hwait, fstepPhaseA_eq]; exact h.fault
  have hp : (fstepWait s).waitPend = true := by rw [hwait, fstepPhaseA_eq]
  have hseq : (fstepWait s).seq = .fstep := by rw [hwait, fstepPhaseA_eq]; exact hq
  have hexec : exec .fstep (s.emit (.accept (encode .fstep))) = .next (fstepWait s) := by
    rw [hwait]
    exact exec_fstep_active hact
  refine ⟨h.run_two_of_waits (by rw [hq]; rfl) rfl hexec hinputs hheld hp hfault,
    loopIdle_waitDoneStep hmode hinputs hheld hfault, ?_⟩
  rw [fadeStep, waitDoneStep_seq_auto hmode, hseq, nextSeq]

/-- Twice as many steps as FSTEPs run through the fade. -/
theorem LoopIdle.run_fadeRun (h : LoopIdle s) (hq : s.seq = if s.act then .fstep else .settle) {n : Nat}
    (hact : ∀ k < n, (fadeRun s k).act = true) :
    Sys2Proof.core.run (2 * n) s = .next (fadeRun s n) ∧ LoopIdle (fadeRun s n) ∧
      (fadeRun s n).seq = if (fadeRun s n).act then .fstep else .settle := by
  induction n with
  | zero => exact ⟨rfl, h, hq⟩
  | succ n ih =>
    obtain ⟨hrun, hidle, hseq⟩ := ih fun k hk => hact k (Nat.lt_succ_of_lt hk)
    have hactive := hact n n.lt_succ_self
    rw [hactive, if_pos rfl] at hseq
    obtain ⟨hnext, hidle', hseq'⟩ := hidle.run_fadeStep hseq hactive
    rw [fadeRun_succ, Nat.mul_succ, run_add_of_run hrun]
    exact ⟨hnext, hidle', hseq'⟩

/-- SQ_SETTLE: two steps, the wait of 100 ms (R167). -/
theorem LoopIdle.run_settle (h : LoopIdle s) (hq : s.seq = .settle) :
    ∃ t, Sys2Proof.core.run 2 s = .next t ∧ LoopIdle t ∧ t.seq = .gen ∧
      loopCounts t.history = loopCounts s.history + (0, 0, 0, 1, 100) := by
  have hrun := h.run_two_of_waits (i := .wait settleMs) (by rw [hq]; rfl) rfl (exec_wait _ _) h.inputs h.rstHeld rfl
    h.fault
  refine ⟨_, hrun, loopIdle_waitDoneStep h.mode h.inputs h.rstHeld h.fault, ?seq, ?counts⟩
  case seq =>
    rw [waitDoneStep_seq_auto (s := (s.emit _).requestWait _ _) h.mode]
    simp [hq, nextSeq]
  case counts =>
    rw [loopCounts_waitDoneStep]
    simp only [State.requestWait_history, State.emit_history, loopCounts_append, add_assoc]
    rfl

/-- SQ_FSTART with the level at 10: the fade of 201 FSTEPs, and the loop settles (R143, R165, R166). -/
theorem LoopIdle.run_blink (h : LoopIdle s) (hq : s.seq = .fstart) (hdim : s.dim = 10#4) :
    ∃ t, Sys2Proof.core.run 403 s = .next t ∧ LoopIdle t ∧ t.seq = .settle ∧
      loopCounts t.history = loopCounts s.history + (0, 1, 201, 0, 402) := by
  obtain ⟨t, hstep, hidle, hseq, hbefore, hcounts⟩ := h.step_fstart hq
  rw [hdim] at hbefore
  obtain ⟨u, hfade, hended⟩ := exists_fadesTo_fadeEnded (n := 10) (by decide) hbefore
  obtain ⟨hrun, hidle', hseq'⟩ := hidle.run_fadeRun (by rw [hseq, hbefore.act, if_pos rfl]) hfade.active
  have hcounts' := loopCounts_fadeRun hfade.active
  rw [hfade.run] at hrun hidle' hseq' hcounts'
  rw [hended.act] at hseq'
  refine ⟨u, (run_succ_of_step hstep 402).trans hrun, hidle', hseq', ?_⟩
  rw [hcounts', hcounts, add_assoc]
  rfl

/-- One pass of the loop from SQ_GEN, by the byte that GEN returns (R169). -/
theorem LoopIdle.run_iteration (h : LoopIdle s) (hq : s.seq = .gen) (hdim : s.dim = 10#4) :
    ∃ t, Sys2Proof.core.run (if 250#8 < s.curByte then 406 else 3) s = .next t ∧ LoopIdle t ∧ t.seq = .gen ∧
      loopCounts t.history =
        loopCounts s.history + if 250#8 < s.curByte then (1, 1, 201, 1, 502) else (1, 0, 0, 1, 100) := by
  obtain ⟨t, hstep, hidle, hseq, hlevel, hcounts⟩ := h.step_gen hq
  by_cases hblink : 250#8 < s.curByte
  · simp only [if_pos hblink] at hseq ⊢
    obtain ⟨u, hrun, hidle, hseq, hcounts'⟩ := hidle.run_blink hseq (hlevel.trans hdim)
    obtain ⟨v, hrun', hidle, hseq, hcounts''⟩ := hidle.run_settle hseq
    refine ⟨v, ?_, hidle, hseq, ?_⟩
    · exact (run_succ_of_step hstep 405).trans ((run_add_of_run hrun 2).trans hrun')
    · rw [hcounts'', hcounts', hcounts, add_assoc, add_assoc]
      rfl
  · simp only [if_neg hblink] at hseq ⊢
    obtain ⟨u, hrun, hidle, hseq, hcounts'⟩ := hidle.run_settle hseq
    refine ⟨u, (run_succ_of_step hstep 2).trans hrun, hidle, hseq, ?_⟩
    rw [hcounts', hcounts, add_assoc]
    rfl

end LoopIdle

/-- What every step keeps, every run keeps. -/
theorem run_keeps {P : State → Prop} (hstep : ∀ s t, P s → step s = .next t → P t) {k : Nat} {s t : State}
    (hs : P s) (hrun : Sys2Proof.core.run k s = .next t) : P t := by
  induction k generalizing s with
  | zero => cases hrun; exact hs
  | succ k ih =>
    obtain ⟨u, hu, hrest⟩ := step_of_run_succ hrun
    exact ih (hstep s u hs hu) hrest

end Sys2Proof.Machine
end

section
/-! PROOFS. One outer iteration of the control loop (spec/41_blink_controller.md R169). -/

namespace Sys2Proof.Proofs

open Sys2Proof Sys2Proof.Machine Sys2Proof.Safety

/-- Settles O37: the parts of the pass follow each other, and the invariant is kept by each of its steps. -/
theorem autoOuterIteration : Obligations.AutoOuterIteration := by
  intro s hs hm hq hheld hp hi n fades fsteps ms hcase
  obtain ⟨hfault, _, hlevel, _⟩ := hs hm
  have hdim : s.dim = 10#4 := hlevel (by simp [hq])
  obtain ⟨t, hrun, hidle, hseq, hcounts⟩ := LoopIdle.run_iteration ⟨hm, hi, hheld, hp, hfault⟩ hq hdim
  obtain ⟨hsteps, hadded⟩ : (if 250#8 < s.curByte then 406 else 3) = n ∧
      (if 250#8 < s.curByte then (1, 1, 201, 1, 502) else (1, 0, 0, 1, 100)) = (1, fades, fsteps, 1, ms) := by
    by_cases hblink : 250#8 < s.curByte
    · rw [if_pos (show 250#8 < s.lfsr.get s.idx from hblink)] at hcase
      cases hcase
      exact ⟨if_pos hblink, if_pos hblink⟩
    · rw [if_neg (show ¬ 250#8 < s.lfsr.get s.idx from hblink)] at hcase
      cases hcase
      exact ⟨if_neg hblink, if_neg hblink⟩
  rw [hsteps] at hrun
  rw [hadded] at hcounts
  exact ⟨t, hrun, run_keeps (fun _ _ => step_keeps_autoInv) hs hrun, hidle.mode, hseq, hidle.waitPend, hidle.inputs,
    congrArg (·.1) hcounts, congrArg (·.2.1) hcounts, congrArg (·.2.2.1) hcounts, congrArg (·.2.2.2.1) hcounts,
    congrArg (·.2.2.2.2) hcounts⟩

end Sys2Proof.Proofs
end
